-- ==== Sys2Proof/Word.lean ====
section
/-! DEFINITION. The words the manual treats as bits: `u8` and `u16` (00 R5), and the plainest arithmetic on them
(00 R6, R7). -/

namespace Sys2Proof

/-- An 8-bit value, `u8` (00 R5). -/
abbrev Byte := BitVec 8

/-- A 16-bit value, `u16` (00 R5): the program counter and every CPU address. -/
abbrev Word := BitVec 16

end Sys2Proof
end

