-- ==== Sys2Proof/Machine/Bits.lean ====
section
/-! DEFINITION. The helpers of 00 R7 and the bit fields shared by the CPU and the devices. -/

namespace Sys2Proof

/-- `word(hi, lo) = (hi << 8) | lo` (00 R7). -/
def word (hi lo : Byte) : Word :=
  (hi.setWidth 16 <<< 8) ||| lo.setWidth 16

/-- `hi(w) = w >> 8` (00 R7). -/
def hiByte (w : Word) : Byte :=
  (w >>> 8).setWidth 8

/-- `lo(w) = w & 0xFF` (00 R7). -/
def loByte (w : Word) : Byte :=
  w.setWidth 8

/-- `page(w) = w & 0xFF00` (00 R7). -/
def page (w : Word) : Word :=
  w &&& 0xFF00

/-- `zext_16(v8)` (00 R7). -/
def zext16 (v : Byte) : Word :=
  v.setWidth 16

/-- `b << k` for a Boolean `b`, as a byte. -/
def bitAt (b : Bool) (k : Nat) : Byte :=
  if b then 1#8 <<< k else 0

/-- The byte whose bit i is the i-th Boolean of the list. -/
def byteOfBits : List Bool → Byte
  | [] => 0
  | b :: bs => (byteOfBits bs <<< 1) ||| bitAt b 0

/-- The bits of `new` that `mask` selects, over `old`. -/
def mergeBits (mask new old : Byte) : Byte :=
  (old &&& ~~~mask) ||| (new &&& mask)

end Sys2Proof
end

