-- ==== Sys2Proof/Syntax.lean ====
section
/-! DEFINITION. The instructions as syntax: the 13 addressing modes (30 R100), the 56 mnemonics (30 R107) and
`Instr`, one constructor per row of spec/opcode_table.json. A constructor's argument is the operand of 30 R102:
an immediate or zero-page byte, a 16-bit address, or the signed offset of a branch. -/

namespace Sys2Proof

/-- The 13 addressing modes (30 R100). -/
inductive Mode where
  | implied | accumulator | immediate | zeroPage | zeroPageX | zeroPageY | relative
  | absolute | absoluteX | absoluteY | indirect | indexedIndirectX | indirectIndexedY
  deriving DecidableEq, Repr

/-- How many operand bytes follow the opcode byte in a mode (30 R100). -/
def Mode.operandLength : Mode → Nat
  | .implied | .accumulator => 0
  | .immediate | .zeroPage | .zeroPageX | .zeroPageY | .relative => 1
  | .indexedIndirectX | .indirectIndexedY => 1
  | .absolute | .absoluteX | .absoluteY | .indirect => 2

/-- The 56 mnemonics (30 R107). -/
inductive Mnemonic where
  | lda | ldx | ldy | sta | stx | sty | tax | tay | txa | tya | tsx | txs
  | adc | sbc | and | ora | eor | bit | cmp | cpx | cpy | inc | dec | inx
  | iny | dex | dey | asl | lsr | rol | ror | bpl | bmi | bvc | bvs | bcc
  | bcs | bne | beq | jmp | jsr | rts | pha | php | pla | plp | clc | cld
  | cli | clv | sec | sed | sei | nop | brk | rti
  deriving DecidableEq, Repr

/-- The 151 official instructions (30 R105), by family in the order of 30 R107. -/
inductive Instr where
  -- LDA (R150)
  | ldaIndX (z : Byte)
  | ldaZp (z : Byte)
  | ldaImm (v : Byte)
  | ldaAbs (a : Word)
  | ldaIndY (z : Byte)
  | ldaZpX (z : Byte)
  | ldaAbsY (a : Word)
  | ldaAbsX (a : Word)
  -- LDX (R151)
  | ldxImm (v : Byte)
  | ldxZp (z : Byte)
  | ldxAbs (a : Word)
  | ldxZpY (z : Byte)
  | ldxAbsY (a : Word)
  -- LDY (R152)
  | ldyImm (v : Byte)
  | ldyZp (z : Byte)
  | ldyAbs (a : Word)
  | ldyZpX (z : Byte)
  | ldyAbsX (a : Word)
  -- STA (R153)
  | staIndX (z : Byte)
  | staZp (z : Byte)
  | staAbs (a : Word)
  | staIndY (z : Byte)
  | staZpX (z : Byte)
  | staAbsY (a : Word)
  | staAbsX (a : Word)
  -- STX (R154)
  | stxZp (z : Byte)
  | stxAbs (a : Word)
  | stxZpY (z : Byte)
  -- STY (R155)
  | styZp (z : Byte)
  | styAbs (a : Word)
  | styZpX (z : Byte)
  -- TAX (R156)
  | tax
  -- TAY (R157)
  | tay
  -- TXA (R158)
  | txa
  -- TYA (R159)
  | tya
  -- TSX (R160)
  | tsx
  -- TXS (R161)
  | txs
  -- ADC (R170)
  | adcIndX (z : Byte)
  | adcZp (z : Byte)
  | adcImm (v : Byte)
  | adcAbs (a : Word)
  | adcIndY (z : Byte)
  | adcZpX (z : Byte)
  | adcAbsY (a : Word)
  | adcAbsX (a : Word)
  -- SBC (R171)
  | sbcIndX (z : Byte)
  | sbcZp (z : Byte)
  | sbcImm (v : Byte)
  | sbcAbs (a : Word)
  | sbcIndY (z : Byte)
  | sbcZpX (z : Byte)
  | sbcAbsY (a : Word)
  | sbcAbsX (a : Word)
  -- AND (R172)
  | andIndX (z : Byte)
  | andZp (z : Byte)
  | andImm (v : Byte)
  | andAbs (a : Word)
  | andIndY (z : Byte)
  | andZpX (z : Byte)
  | andAbsY (a : Word)
  | andAbsX (a : Word)
  -- ORA (R173)
  | oraIndX (z : Byte)
  | oraZp (z : Byte)
  | oraImm (v : Byte)
  | oraAbs (a : Word)
  | oraIndY (z : Byte)
  | oraZpX (z : Byte)
  | oraAbsY (a : Word)
  | oraAbsX (a : Word)
  -- EOR (R174)
  | eorIndX (z : Byte)
  | eorZp (z : Byte)
  | eorImm (v : Byte)
  | eorAbs (a : Word)
  | eorIndY (z : Byte)
  | eorZpX (z : Byte)
  | eorAbsY (a : Word)
  | eorAbsX (a : Word)
  -- BIT (R175)
  | bitZp (z : Byte)
  | bitAbs (a : Word)
  -- CMP (R176)
  | cmpIndX (z : Byte)
  | cmpZp (z : Byte)
  | cmpImm (v : Byte)
  | cmpAbs (a : Word)
  | cmpIndY (z : Byte)
  | cmpZpX (z : Byte)
  | cmpAbsY (a : Word)
  | cmpAbsX (a : Word)
  -- CPX (R177)
  | cpxImm (v : Byte)
  | cpxZp (z : Byte)
  | cpxAbs (a : Word)
  -- CPY (R178)
  | cpyImm (v : Byte)
  | cpyZp (z : Byte)
  | cpyAbs (a : Word)
  -- INC (R179)
  | incZp (z : Byte)
  | incAbs (a : Word)
  | incZpX (z : Byte)
  | incAbsX (a : Word)
  -- DEC (R180)
  | decZp (z : Byte)
  | decAbs (a : Word)
  | decZpX (z : Byte)
  | decAbsX (a : Word)
  -- INX (R181)
  | inx
  -- INY (R182)
  | iny
  -- DEX (R183)
  | dex
  -- DEY (R184)
  | dey
  -- ASL (R190)
  | aslZp (z : Byte)
  | aslAcc
  | aslAbs (a : Word)
  | aslZpX (z : Byte)
  | aslAbsX (a : Word)
  -- LSR (R191)
  | lsrZp (z : Byte)
  | lsrAcc
  | lsrAbs (a : Word)
  | lsrZpX (z : Byte)
  | lsrAbsX (a : Word)
  -- ROL (R192)
  | rolZp (z : Byte)
  | rolAcc
  | rolAbs (a : Word)
  | rolZpX (z : Byte)
  | rolAbsX (a : Word)
  -- ROR (R193)
  | rorZp (z : Byte)
  | rorAcc
  | rorAbs (a : Word)
  | rorZpX (z : Byte)
  | rorAbsX (a : Word)
  -- BPL (R196)
  | bpl (off : Int)
  -- BMI (R197)
  | bmi (off : Int)
  -- BVC (R198)
  | bvc (off : Int)
  -- BVS (R199)
  | bvs (off : Int)
  -- BCC (R200)
  | bcc (off : Int)
  -- BCS (R201)
  | bcs (off : Int)
  -- BNE (R202)
  | bne (off : Int)
  -- BEQ (R203)
  | beq (off : Int)
  -- JMP (R204)
  | jmpAbs (a : Word)
  | jmpInd (a : Word)
  -- JSR (R205)
  | jsr (a : Word)
  -- RTS (R206)
  | rts
  -- PHA (R210)
  | pha
  -- PHP (R211)
  | php
  -- PLA (R212)
  | pla
  -- PLP (R213)
  | plp
  -- CLC (R214)
  | clc
  -- CLD (R215)
  | cld
  -- CLI (R216)
  | cli
  -- CLV (R217)
  | clv
  -- SEC (R218)
  | sec
  -- SED (R219)
  | sed
  -- SEI (R220)
  | sei
  -- NOP (R221)
  | nop
  -- BRK (R222)
  | brk
  -- RTI (R223)
  | rti
  deriving DecidableEq, Repr

end Sys2Proof
end

