-- ==== Sys2Proof/WellFormed.lean ====
section
/-! DEFINITION. What an instruction must satisfy to have an encoding. The widths of immediates, zero-page
addresses and 16-bit addresses are in their types; the one check is the range of a branch's offset (30 R102, R110). -/

namespace Sys2Proof

/-- The offset of a branch fits the signed byte `rel8`: -128..+127 (30 R102). -/
def offsetInRange (off : Int) : Bool :=
  decide (-128 ≤ off) && decide (off ≤ 127)

/-- The instruction can be encoded: a branch's offset is in range, every other operand is bounded by its type. -/
def Instr.wellFormed : Instr → Bool
  | .ldaIndX _ => true
  | .ldaZp _ => true
  | .ldaImm _ => true
  | .ldaAbs _ => true
  | .ldaIndY _ => true
  | .ldaZpX _ => true
  | .ldaAbsY _ => true
  | .ldaAbsX _ => true
  | .ldxImm _ => true
  | .ldxZp _ => true
  | .ldxAbs _ => true
  | .ldxZpY _ => true
  | .ldxAbsY _ => true
  | .ldyImm _ => true
  | .ldyZp _ => true
  | .ldyAbs _ => true
  | .ldyZpX _ => true
  | .ldyAbsX _ => true
  | .staIndX _ => true
  | .staZp _ => true
  | .staAbs _ => true
  | .staIndY _ => true
  | .staZpX _ => true
  | .staAbsY _ => true
  | .staAbsX _ => true
  | .stxZp _ => true
  | .stxAbs _ => true
  | .stxZpY _ => true
  | .styZp _ => true
  | .styAbs _ => true
  | .styZpX _ => true
  | .tax => true
  | .tay => true
  | .txa => true
  | .tya => true
  | .tsx => true
  | .txs => true
  | .adcIndX _ => true
  | .adcZp _ => true
  | .adcImm _ => true
  | .adcAbs _ => true
  | .adcIndY _ => true
  | .adcZpX _ => true
  | .adcAbsY _ => true
  | .adcAbsX _ => true
  | .sbcIndX _ => true
  | .sbcZp _ => true
  | .sbcImm _ => true
  | .sbcAbs _ => true
  | .sbcIndY _ => true
  | .sbcZpX _ => true
  | .sbcAbsY _ => true
  | .sbcAbsX _ => true
  | .andIndX _ => true
  | .andZp _ => true
  | .andImm _ => true
  | .andAbs _ => true
  | .andIndY _ => true
  | .andZpX _ => true
  | .andAbsY _ => true
  | .andAbsX _ => true
  | .oraIndX _ => true
  | .oraZp _ => true
  | .oraImm _ => true
  | .oraAbs _ => true
  | .oraIndY _ => true
  | .oraZpX _ => true
  | .oraAbsY _ => true
  | .oraAbsX _ => true
  | .eorIndX _ => true
  | .eorZp _ => true
  | .eorImm _ => true
  | .eorAbs _ => true
  | .eorIndY _ => true
  | .eorZpX _ => true
  | .eorAbsY _ => true
  | .eorAbsX _ => true
  | .bitZp _ => true
  | .bitAbs _ => true
  | .cmpIndX _ => true
  | .cmpZp _ => true
  | .cmpImm _ => true
  | .cmpAbs _ => true
  | .cmpIndY _ => true
  | .cmpZpX _ => true
  | .cmpAbsY _ => true
  | .cmpAbsX _ => true
  | .cpxImm _ => true
  | .cpxZp _ => true
  | .cpxAbs _ => true
  | .cpyImm _ => true
  | .cpyZp _ => true
  | .cpyAbs _ => true
  | .incZp _ => true
  | .incAbs _ => true
  | .incZpX _ => true
  | .incAbsX _ => true
  | .decZp _ => true
  | .decAbs _ => true
  | .decZpX _ => true
  | .decAbsX _ => true
  | .inx => true
  | .iny => true
  | .dex => true
  | .dey => true
  | .aslZp _ => true
  | .aslAcc => true
  | .aslAbs _ => true
  | .aslZpX _ => true
  | .aslAbsX _ => true
  | .lsrZp _ => true
  | .lsrAcc => true
  | .lsrAbs _ => true
  | .lsrZpX _ => true
  | .lsrAbsX _ => true
  | .rolZp _ => true
  | .rolAcc => true
  | .rolAbs _ => true
  | .rolZpX _ => true
  | .rolAbsX _ => true
  | .rorZp _ => true
  | .rorAcc => true
  | .rorAbs _ => true
  | .rorZpX _ => true
  | .rorAbsX _ => true
  | .bpl off => offsetInRange off
  | .bmi off => offsetInRange off
  | .bvc off => offsetInRange off
  | .bvs off => offsetInRange off
  | .bcc off => offsetInRange off
  | .bcs off => offsetInRange off
  | .bne off => offsetInRange off
  | .beq off => offsetInRange off
  | .jmpAbs _ => true
  | .jmpInd _ => true
  | .jsr _ => true
  | .rts => true
  | .pha => true
  | .php => true
  | .pla => true
  | .plp => true
  | .clc => true
  | .cld => true
  | .cli => true
  | .clv => true
  | .sec => true
  | .sed => true
  | .sei => true
  | .nop => true
  | .brk => true
  | .rti => true

end Sys2Proof
end

