-- ==== Sys2Proof/Decode.lean ====
section
/-! DEFINITION. The instruction table (30 R105), the decoder (30 R103), and after it the encoder (30 R101, R102).
The table is the decoder's; the encoder writes each opcode byte out again, so that their agreement says something. -/

namespace Sys2Proof

/-- One entry of the instruction table, `{mnemonic, addressing_mode, base_cycles, may_page_cross}` (10 R41),
with its opcode byte and the instruction that its operand bytes 1 and 2 make. -/
structure TableRow where
  opcode : Byte
  mnemonic : Mnemonic
  mode : Mode
  baseCycles : Nat
  mayPageCross : Bool
  make : Byte → Byte → Instr

/-- The value of a branch's offset byte, read as two's complement (30 R102). -/
def operandOffset (b : Byte) : Int :=
  b.toInt

/-- The row 0x of the opcode map (30 R105). -/
def tableRow0 : List TableRow := [
  ⟨0x00, .brk, .implied, 7, false, fun _ _ => .brk⟩,
  ⟨0x01, .ora, .indexedIndirectX, 6, false, fun b1 _ => .oraIndX b1⟩,
  ⟨0x05, .ora, .zeroPage, 3, false, fun b1 _ => .oraZp b1⟩,
  ⟨0x06, .asl, .zeroPage, 5, false, fun b1 _ => .aslZp b1⟩,
  ⟨0x08, .php, .implied, 3, false, fun _ _ => .php⟩,
  ⟨0x09, .ora, .immediate, 2, false, fun b1 _ => .oraImm b1⟩,
  ⟨0x0A, .asl, .accumulator, 2, false, fun _ _ => .aslAcc⟩,
  ⟨0x0D, .ora, .absolute, 4, false, fun b1 b2 => .oraAbs (word b2 b1)⟩,
  ⟨0x0E, .asl, .absolute, 6, false, fun b1 b2 => .aslAbs (word b2 b1)⟩]

/-- The row 1x of the opcode map (30 R105). -/
def tableRow1 : List TableRow := [
  ⟨0x10, .bpl, .relative, 2, false, fun b1 _ => .bpl (operandOffset b1)⟩,
  ⟨0x11, .ora, .indirectIndexedY, 5, true, fun b1 _ => .oraIndY b1⟩,
  ⟨0x15, .ora, .zeroPageX, 4, false, fun b1 _ => .oraZpX b1⟩,
  ⟨0x16, .asl, .zeroPageX, 6, false, fun b1 _ => .aslZpX b1⟩,
  ⟨0x18, .clc, .implied, 2, false, fun _ _ => .clc⟩,
  ⟨0x19, .ora, .absoluteY, 4, true, fun b1 b2 => .oraAbsY (word b2 b1)⟩,
  ⟨0x1D, .ora, .absoluteX, 4, true, fun b1 b2 => .oraAbsX (word b2 b1)⟩,
  ⟨0x1E, .asl, .absoluteX, 7, false, fun b1 b2 => .aslAbsX (word b2 b1)⟩]

/-- The row 2x of the opcode map (30 R105). -/
def tableRow2 : List TableRow := [
  ⟨0x20, .jsr, .absolute, 6, false, fun b1 b2 => .jsr (word b2 b1)⟩,
  ⟨0x21, .and, .indexedIndirectX, 6, false, fun b1 _ => .andIndX b1⟩,
  ⟨0x24, .bit, .zeroPage, 3, false, fun b1 _ => .bitZp b1⟩,
  ⟨0x25, .and, .zeroPage, 3, false, fun b1 _ => .andZp b1⟩,
  ⟨0x26, .rol, .zeroPage, 5, false, fun b1 _ => .rolZp b1⟩,
  ⟨0x28, .plp, .implied, 4, false, fun _ _ => .plp⟩,
  ⟨0x29, .and, .immediate, 2, false, fun b1 _ => .andImm b1⟩,
  ⟨0x2A, .rol, .accumulator, 2, false, fun _ _ => .rolAcc⟩,
  ⟨0x2C, .bit, .absolute, 4, false, fun b1 b2 => .bitAbs (word b2 b1)⟩,
  ⟨0x2D, .and, .absolute, 4, false, fun b1 b2 => .andAbs (word b2 b1)⟩,
  ⟨0x2E, .rol, .absolute, 6, false, fun b1 b2 => .rolAbs (word b2 b1)⟩]

/-- The row 3x of the opcode map (30 R105). -/
def tableRow3 : List TableRow := [
  ⟨0x30, .bmi, .relative, 2, false, fun b1 _ => .bmi (operandOffset b1)⟩,
  ⟨0x31, .and, .indirectIndexedY, 5, true, fun b1 _ => .andIndY b1⟩,
  ⟨0x35, .and, .zeroPageX, 4, false, fun b1 _ => .andZpX b1⟩,
  ⟨0x36, .rol, .zeroPageX, 6, false, fun b1 _ => .rolZpX b1⟩,
  ⟨0x38, .sec, .implied, 2, false, fun _ _ => .sec⟩,
  ⟨0x39, .and, .absoluteY, 4, true, fun b1 b2 => .andAbsY (word b2 b1)⟩,
  ⟨0x3D, .and, .absoluteX, 4, true, fun b1 b2 => .andAbsX (word b2 b1)⟩,
  ⟨0x3E, .rol, .absoluteX, 7, false, fun b1 b2 => .rolAbsX (word b2 b1)⟩]

/-- The row 4x of the opcode map (30 R105). -/
def tableRow4 : List TableRow := [
  ⟨0x40, .rti, .implied, 6, false, fun _ _ => .rti⟩,
  ⟨0x41, .eor, .indexedIndirectX, 6, false, fun b1 _ => .eorIndX b1⟩,
  ⟨0x45, .eor, .zeroPage, 3, false, fun b1 _ => .eorZp b1⟩,
  ⟨0x46, .lsr, .zeroPage, 5, false, fun b1 _ => .lsrZp b1⟩,
  ⟨0x48, .pha, .implied, 3, false, fun _ _ => .pha⟩,
  ⟨0x49, .eor, .immediate, 2, false, fun b1 _ => .eorImm b1⟩,
  ⟨0x4A, .lsr, .accumulator, 2, false, fun _ _ => .lsrAcc⟩,
  ⟨0x4C, .jmp, .absolute, 3, false, fun b1 b2 => .jmpAbs (word b2 b1)⟩,
  ⟨0x4D, .eor, .absolute, 4, false, fun b1 b2 => .eorAbs (word b2 b1)⟩,
  ⟨0x4E, .lsr, .absolute, 6, false, fun b1 b2 => .lsrAbs (word b2 b1)⟩]

/-- The row 5x of the opcode map (30 R105). -/
def tableRow5 : List TableRow := [
  ⟨0x50, .bvc, .relative, 2, false, fun b1 _ => .bvc (operandOffset b1)⟩,
  ⟨0x51, .eor, .indirectIndexedY, 5, true, fun b1 _ => .eorIndY b1⟩,
  ⟨0x55, .eor, .zeroPageX, 4, false, fun b1 _ => .eorZpX b1⟩,
  ⟨0x56, .lsr, .zeroPageX, 6, false, fun b1 _ => .lsrZpX b1⟩,
  ⟨0x58, .cli, .implied, 2, false, fun _ _ => .cli⟩,
  ⟨0x59, .eor, .absoluteY, 4, true, fun b1 b2 => .eorAbsY (word b2 b1)⟩,
  ⟨0x5D, .eor, .absoluteX, 4, true, fun b1 b2 => .eorAbsX (word b2 b1)⟩,
  ⟨0x5E, .lsr, .absoluteX, 7, false, fun b1 b2 => .lsrAbsX (word b2 b1)⟩]

/-- The row 6x of the opcode map (30 R105). -/
def tableRow6 : List TableRow := [
  ⟨0x60, .rts, .implied, 6, false, fun _ _ => .rts⟩,
  ⟨0x61, .adc, .indexedIndirectX, 6, false, fun b1 _ => .adcIndX b1⟩,
  ⟨0x65, .adc, .zeroPage, 3, false, fun b1 _ => .adcZp b1⟩,
  ⟨0x66, .ror, .zeroPage, 5, false, fun b1 _ => .rorZp b1⟩,
  ⟨0x68, .pla, .implied, 4, false, fun _ _ => .pla⟩,
  ⟨0x69, .adc, .immediate, 2, false, fun b1 _ => .adcImm b1⟩,
  ⟨0x6A, .ror, .accumulator, 2, false, fun _ _ => .rorAcc⟩,
  ⟨0x6C, .jmp, .indirect, 5, false, fun b1 b2 => .jmpInd (word b2 b1)⟩,
  ⟨0x6D, .adc, .absolute, 4, false, fun b1 b2 => .adcAbs (word b2 b1)⟩,
  ⟨0x6E, .ror, .absolute, 6, false, fun b1 b2 => .rorAbs (word b2 b1)⟩]

/-- The row 7x of the opcode map (30 R105). -/
def tableRow7 : List TableRow := [
  ⟨0x70, .bvs, .relative, 2, false, fun b1 _ => .bvs (operandOffset b1)⟩,
  ⟨0x71, .adc, .indirectIndexedY, 5, true, fun b1 _ => .adcIndY b1⟩,
  ⟨0x75, .adc, .zeroPageX, 4, false, fun b1 _ => .adcZpX b1⟩,
  ⟨0x76, .ror, .zeroPageX, 6, false, fun b1 _ => .rorZpX b1⟩,
  ⟨0x78, .sei, .implied, 2, false, fun _ _ => .sei⟩,
  ⟨0x79, .adc, .absoluteY, 4, true, fun b1 b2 => .adcAbsY (word b2 b1)⟩,
  ⟨0x7D, .adc, .absoluteX, 4, true, fun b1 b2 => .adcAbsX (word b2 b1)⟩,
  ⟨0x7E, .ror, .absoluteX, 7, false, fun b1 b2 => .rorAbsX (word b2 b1)⟩]

/-- The row 8x of the opcode map (30 R105). -/
def tableRow8 : List TableRow := [
  ⟨0x81, .sta, .indexedIndirectX, 6, false, fun b1 _ => .staIndX b1⟩,
  ⟨0x84, .sty, .zeroPage, 3, false, fun b1 _ => .styZp b1⟩,
  ⟨0x85, .sta, .zeroPage, 3, false, fun b1 _ => .staZp b1⟩,
  ⟨0x86, .stx, .zeroPage, 3, false, fun b1 _ => .stxZp b1⟩,
  ⟨0x88, .dey, .implied, 2, false, fun _ _ => .dey⟩,
  ⟨0x8A, .txa, .implied, 2, false, fun _ _ => .txa⟩,
  ⟨0x8C, .sty, .absolute, 4, false, fun b1 b2 => .styAbs (word b2 b1)⟩,
  ⟨0x8D, .sta, .absolute, 4, false, fun b1 b2 => .staAbs (word b2 b1)⟩,
  ⟨0x8E, .stx, .absolute, 4, false, fun b1 b2 => .stxAbs (word b2 b1)⟩]

/-- The row 9x of the opcode map (30 R105). -/
def tableRow9 : List TableRow := [
  ⟨0x90, .bcc, .relative, 2, false, fun b1 _ => .bcc (operandOffset b1)⟩,
  ⟨0x91, .sta, .indirectIndexedY, 6, false, fun b1 _ => .staIndY b1⟩,
  ⟨0x94, .sty, .zeroPageX, 4, false, fun b1 _ => .styZpX b1⟩,
  ⟨0x95, .sta, .zeroPageX, 4, false, fun b1 _ => .staZpX b1⟩,
  ⟨0x96, .stx, .zeroPageY, 4, false, fun b1 _ => .stxZpY b1⟩,
  ⟨0x98, .tya, .implied, 2, false, fun _ _ => .tya⟩,
  ⟨0x99, .sta, .absoluteY, 5, false, fun b1 b2 => .staAbsY (word b2 b1)⟩,
  ⟨0x9A, .txs, .implied, 2, false, fun _ _ => .txs⟩,
  ⟨0x9D, .sta, .absoluteX, 5, false, fun b1 b2 => .staAbsX (word b2 b1)⟩]

/-- The row Ax of the opcode map (30 R105). -/
def tableRowA : List TableRow := [
  ⟨0xA0, .ldy, .immediate, 2, false, fun b1 _ => .ldyImm b1⟩,
  ⟨0xA1, .lda, .indexedIndirectX, 6, false, fun b1 _ => .ldaIndX b1⟩,
  ⟨0xA2, .ldx, .immediate, 2, false, fun b1 _ => .ldxImm b1⟩,
  ⟨0xA4, .ldy, .zeroPage, 3, false, fun b1 _ => .ldyZp b1⟩,
  ⟨0xA5, .lda, .zeroPage, 3, false, fun b1 _ => .ldaZp b1⟩,
  ⟨0xA6, .ldx, .zeroPage, 3, false, fun b1 _ => .ldxZp b1⟩,
  ⟨0xA8, .tay, .implied, 2, false, fun _ _ => .tay⟩,
  ⟨0xA9, .lda, .immediate, 2, false, fun b1 _ => .ldaImm b1⟩,
  ⟨0xAA, .tax, .implied, 2, false, fun _ _ => .tax⟩,
  ⟨0xAC, .ldy, .absolute, 4, false, fun b1 b2 => .ldyAbs (word b2 b1)⟩,
  ⟨0xAD, .lda, .absolute, 4, false, fun b1 b2 => .ldaAbs (word b2 b1)⟩,
  ⟨0xAE, .ldx, .absolute, 4, false, fun b1 b2 => .ldxAbs (word b2 b1)⟩]

/-- The row Bx of the opcode map (30 R105). -/
def tableRowB : List TableRow := [
  ⟨0xB0, .bcs, .relative, 2, false, fun b1 _ => .bcs (operandOffset b1)⟩,
  ⟨0xB1, .lda, .indirectIndexedY, 5, true, fun b1 _ => .ldaIndY b1⟩,
  ⟨0xB4, .ldy, .zeroPageX, 4, false, fun b1 _ => .ldyZpX b1⟩,
  ⟨0xB5, .lda, .zeroPageX, 4, false, fun b1 _ => .ldaZpX b1⟩,
  ⟨0xB6, .ldx, .zeroPageY, 4, false, fun b1 _ => .ldxZpY b1⟩,
  ⟨0xB8, .clv, .implied, 2, false, fun _ _ => .clv⟩,
  ⟨0xB9, .lda, .absoluteY, 4, true, fun b1 b2 => .ldaAbsY (word b2 b1)⟩,
  ⟨0xBA, .tsx, .implied, 2, false, fun _ _ => .tsx⟩,
  ⟨0xBC, .ldy, .absoluteX, 4, true, fun b1 b2 => .ldyAbsX (word b2 b1)⟩,
  ⟨0xBD, .lda, .absoluteX, 4, true, fun b1 b2 => .ldaAbsX (word b2 b1)⟩,
  ⟨0xBE, .ldx, .absoluteY, 4, true, fun b1 b2 => .ldxAbsY (word b2 b1)⟩]

/-- The row Cx of the opcode map (30 R105). -/
def tableRowC : List TableRow := [
  ⟨0xC0, .cpy, .immediate, 2, false, fun b1 _ => .cpyImm b1⟩,
  ⟨0xC1, .cmp, .indexedIndirectX, 6, false, fun b1 _ => .cmpIndX b1⟩,
  ⟨0xC4, .cpy, .zeroPage, 3, false, fun b1 _ => .cpyZp b1⟩,
  ⟨0xC5, .cmp, .zeroPage, 3, false, fun b1 _ => .cmpZp b1⟩,
  ⟨0xC6, .dec, .zeroPage, 5, false, fun b1 _ => .decZp b1⟩,
  ⟨0xC8, .iny, .implied, 2, false, fun _ _ => .iny⟩,
  ⟨0xC9, .cmp, .immediate, 2, false, fun b1 _ => .cmpImm b1⟩,
  ⟨0xCA, .dex, .implied, 2, false, fun _ _ => .dex⟩,
  ⟨0xCC, .cpy, .absolute, 4, false, fun b1 b2 => .cpyAbs (word b2 b1)⟩,
  ⟨0xCD, .cmp, .absolute, 4, false, fun b1 b2 => .cmpAbs (word b2 b1)⟩,
  ⟨0xCE, .dec, .absolute, 6, false, fun b1 b2 => .decAbs (word b2 b1)⟩]

/-- The row Dx of the opcode map (30 R105). -/
def tableRowD : List TableRow := [
  ⟨0xD0, .bne, .relative, 2, false, fun b1 _ => .bne (operandOffset b1)⟩,
  ⟨0xD1, .cmp, .indirectIndexedY, 5, true, fun b1 _ => .cmpIndY b1⟩,
  ⟨0xD5, .cmp, .zeroPageX, 4, false, fun b1 _ => .cmpZpX b1⟩,
  ⟨0xD6, .dec, .zeroPageX, 6, false, fun b1 _ => .decZpX b1⟩,
  ⟨0xD8, .cld, .implied, 2, false, fun _ _ => .cld⟩,
  ⟨0xD9, .cmp, .absoluteY, 4, true, fun b1 b2 => .cmpAbsY (word b2 b1)⟩,
  ⟨0xDD, .cmp, .absoluteX, 4, true, fun b1 b2 => .cmpAbsX (word b2 b1)⟩,
  ⟨0xDE, .dec, .absoluteX, 7, false, fun b1 b2 => .decAbsX (word b2 b1)⟩]

/-- The row Ex of the opcode map (30 R105). -/
def tableRowE : List TableRow := [
  ⟨0xE0, .cpx, .immediate, 2, false, fun b1 _ => .cpxImm b1⟩,
  ⟨0xE1, .sbc, .indexedIndirectX, 6, false, fun b1 _ => .sbcIndX b1⟩,
  ⟨0xE4, .cpx, .zeroPage, 3, false, fun b1 _ => .cpxZp b1⟩,
  ⟨0xE5, .sbc, .zeroPage, 3, false, fun b1 _ => .sbcZp b1⟩,
  ⟨0xE6, .inc, .zeroPage, 5, false, fun b1 _ => .incZp b1⟩,
  ⟨0xE8, .inx, .implied, 2, false, fun _ _ => .inx⟩,
  ⟨0xE9, .sbc, .immediate, 2, false, fun b1 _ => .sbcImm b1⟩,
  ⟨0xEA, .nop, .implied, 2, false, fun _ _ => .nop⟩,
  ⟨0xEC, .cpx, .absolute, 4, false, fun b1 b2 => .cpxAbs (word b2 b1)⟩,
  ⟨0xED, .sbc, .absolute, 4, false, fun b1 b2 => .sbcAbs (word b2 b1)⟩,
  ⟨0xEE, .inc, .absolute, 6, false, fun b1 b2 => .incAbs (word b2 b1)⟩]

/-- The row Fx of the opcode map (30 R105). -/
def tableRowF : List TableRow := [
  ⟨0xF0, .beq, .relative, 2, false, fun b1 _ => .beq (operandOffset b1)⟩,
  ⟨0xF1, .sbc, .indirectIndexedY, 5, true, fun b1 _ => .sbcIndY b1⟩,
  ⟨0xF5, .sbc, .zeroPageX, 4, false, fun b1 _ => .sbcZpX b1⟩,
  ⟨0xF6, .inc, .zeroPageX, 6, false, fun b1 _ => .incZpX b1⟩,
  ⟨0xF8, .sed, .implied, 2, false, fun _ _ => .sed⟩,
  ⟨0xF9, .sbc, .absoluteY, 4, true, fun b1 b2 => .sbcAbsY (word b2 b1)⟩,
  ⟨0xFD, .sbc, .absoluteX, 4, true, fun b1 b2 => .sbcAbsX (word b2 b1)⟩,
  ⟨0xFE, .inc, .absoluteX, 7, false, fun b1 b2 => .incAbsX (word b2 b1)⟩]

/-- The row of the opcode map for a high nibble (30 R105). -/
def tableRow : Nat → List TableRow
  | 0x0 => tableRow0
  | 0x1 => tableRow1
  | 0x2 => tableRow2
  | 0x3 => tableRow3
  | 0x4 => tableRow4
  | 0x5 => tableRow5
  | 0x6 => tableRow6
  | 0x7 => tableRow7
  | 0x8 => tableRow8
  | 0x9 => tableRow9
  | 0xA => tableRowA
  | 0xB => tableRowB
  | 0xC => tableRowC
  | 0xD => tableRowD
  | 0xE => tableRowE
  | _ => tableRowF

/-- The instruction table: the entry of an opcode byte, or `none` for an `INVALID` byte (30 R105, R108). -/
def table (opcode : Byte) : Option TableRow :=
  (tableRow (opcode.toNat / 16)).find? (fun row => row.opcode == opcode)

/-- Why bytes do not decode. -/
inductive DecodeError where
  /-- The opcode byte is one of the 105 `INVALID` bytes (30 R108). -/
  | unimplementedOpcode (opcode : Byte)
  /-- Fewer bytes were given than the opcode's mode needs (30 R103). -/
  | truncated
  deriving DecidableEq, Repr

/-- The decoder, total on any bytes: the first instruction and the bytes after it (30 R103). An `INVALID` byte is
rejected before any operand byte is looked at. -/
def decode : List Byte → Except DecodeError (Instr × List Byte)
  | [] => .error .truncated
  | opcode :: rest =>
    match table opcode with
    | none => .error (.unimplementedOpcode opcode)
    | some row =>
      match row.mode.operandLength, rest with
      | 0, rest => .ok (row.make 0 0, rest)
      | 1, b1 :: rest => .ok (row.make b1 0, rest)
      | 2, b1 :: b2 :: rest => .ok (row.make b1 b2, rest)
      | _, _ => .error .truncated

/-- The opcode byte of an instruction (30 R105; the bytes are also in each instruction's rule). -/
def Instr.opcode : Instr → Byte
  | .ldaIndX _ => 0xA1
  | .ldaZp _ => 0xA5
  | .ldaImm _ => 0xA9
  | .ldaAbs _ => 0xAD
  | .ldaIndY _ => 0xB1
  | .ldaZpX _ => 0xB5
  | .ldaAbsY _ => 0xB9
  | .ldaAbsX _ => 0xBD
  | .ldxImm _ => 0xA2
  | .ldxZp _ => 0xA6
  | .ldxAbs _ => 0xAE
  | .ldxZpY _ => 0xB6
  | .ldxAbsY _ => 0xBE
  | .ldyImm _ => 0xA0
  | .ldyZp _ => 0xA4
  | .ldyAbs _ => 0xAC
  | .ldyZpX _ => 0xB4
  | .ldyAbsX _ => 0xBC
  | .staIndX _ => 0x81
  | .staZp _ => 0x85
  | .staAbs _ => 0x8D
  | .staIndY _ => 0x91
  | .staZpX _ => 0x95
  | .staAbsY _ => 0x99
  | .staAbsX _ => 0x9D
  | .stxZp _ => 0x86
  | .stxAbs _ => 0x8E
  | .stxZpY _ => 0x96
  | .styZp _ => 0x84
  | .styAbs _ => 0x8C
  | .styZpX _ => 0x94
  | .tax => 0xAA
  | .tay => 0xA8
  | .txa => 0x8A
  | .tya => 0x98
  | .tsx => 0xBA
  | .txs => 0x9A
  | .adcIndX _ => 0x61
  | .adcZp _ => 0x65
  | .adcImm _ => 0x69
  | .adcAbs _ => 0x6D
  | .adcIndY _ => 0x71
  | .adcZpX _ => 0x75
  | .adcAbsY _ => 0x79
  | .adcAbsX _ => 0x7D
  | .sbcIndX _ => 0xE1
  | .sbcZp _ => 0xE5
  | .sbcImm _ => 0xE9
  | .sbcAbs _ => 0xED
  | .sbcIndY _ => 0xF1
  | .sbcZpX _ => 0xF5
  | .sbcAbsY _ => 0xF9
  | .sbcAbsX _ => 0xFD
  | .andIndX _ => 0x21
  | .andZp _ => 0x25
  | .andImm _ => 0x29
  | .andAbs _ => 0x2D
  | .andIndY _ => 0x31
  | .andZpX _ => 0x35
  | .andAbsY _ => 0x39
  | .andAbsX _ => 0x3D
  | .oraIndX _ => 0x01
  | .oraZp _ => 0x05
  | .oraImm _ => 0x09
  | .oraAbs _ => 0x0D
  | .oraIndY _ => 0x11
  | .oraZpX _ => 0x15
  | .oraAbsY _ => 0x19
  | .oraAbsX _ => 0x1D
  | .eorIndX _ => 0x41
  | .eorZp _ => 0x45
  | .eorImm _ => 0x49
  | .eorAbs _ => 0x4D
  | .eorIndY _ => 0x51
  | .eorZpX _ => 0x55
  | .eorAbsY _ => 0x59
  | .eorAbsX _ => 0x5D
  | .bitZp _ => 0x24
  | .bitAbs _ => 0x2C
  | .cmpIndX _ => 0xC1
  | .cmpZp _ => 0xC5
  | .cmpImm _ => 0xC9
  | .cmpAbs _ => 0xCD
  | .cmpIndY _ => 0xD1
  | .cmpZpX _ => 0xD5
  | .cmpAbsY _ => 0xD9
  | .cmpAbsX _ => 0xDD
  | .cpxImm _ => 0xE0
  | .cpxZp _ => 0xE4
  | .cpxAbs _ => 0xEC
  | .cpyImm _ => 0xC0
  | .cpyZp _ => 0xC4
  | .cpyAbs _ => 0xCC
  | .incZp _ => 0xE6
  | .incAbs _ => 0xEE
  | .incZpX _ => 0xF6
  | .incAbsX _ => 0xFE
  | .decZp _ => 0xC6
  | .decAbs _ => 0xCE
  | .decZpX _ => 0xD6
  | .decAbsX _ => 0xDE
  | .inx => 0xE8
  | .iny => 0xC8
  | .dex => 0xCA
  | .dey => 0x88
  | .aslZp _ => 0x06
  | .aslAcc => 0x0A
  | .aslAbs _ => 0x0E
  | .aslZpX _ => 0x16
  | .aslAbsX _ => 0x1E
  | .lsrZp _ => 0x46
  | .lsrAcc => 0x4A
  | .lsrAbs _ => 0x4E
  | .lsrZpX _ => 0x56
  | .lsrAbsX _ => 0x5E
  | .rolZp _ => 0x26
  | .rolAcc => 0x2A
  | .rolAbs _ => 0x2E
  | .rolZpX _ => 0x36
  | .rolAbsX _ => 0x3E
  | .rorZp _ => 0x66
  | .rorAcc => 0x6A
  | .rorAbs _ => 0x6E
  | .rorZpX _ => 0x76
  | .rorAbsX _ => 0x7E
  | .bpl _ => 0x10
  | .bmi _ => 0x30
  | .bvc _ => 0x50
  | .bvs _ => 0x70
  | .bcc _ => 0x90
  | .bcs _ => 0xB0
  | .bne _ => 0xD0
  | .beq _ => 0xF0
  | .jmpAbs _ => 0x4C
  | .jmpInd _ => 0x6C
  | .jsr _ => 0x20
  | .rts => 0x60
  | .pha => 0x48
  | .php => 0x08
  | .pla => 0x68
  | .plp => 0x28
  | .clc => 0x18
  | .cld => 0xD8
  | .cli => 0x58
  | .clv => 0xB8
  | .sec => 0x38
  | .sed => 0xF8
  | .sei => 0x78
  | .nop => 0xEA
  | .brk => 0x00
  | .rti => 0x40

/-- The bytes of a two-byte operand, low byte first (30 R101). -/
def encodeWord (a : Word) : List Byte :=
  [loByte a, hiByte a]

/-- The byte of a branch's offset (30 R102). -/
def encodeOffset (off : Int) : List Byte :=
  [BitVec.ofInt 8 off]

/-- The operand bytes of an instruction (30 R101, R102). -/
def Instr.operandBytes : Instr → List Byte
  | .ldaIndX z => [z]
  | .ldaZp z => [z]
  | .ldaImm v => [v]
  | .ldaAbs a => encodeWord a
  | .ldaIndY z => [z]
  | .ldaZpX z => [z]
  | .ldaAbsY a => encodeWord a
  | .ldaAbsX a => encodeWord a
  | .ldxImm v => [v]
  | .ldxZp z => [z]
  | .ldxAbs a => encodeWord a
  | .ldxZpY z => [z]
  | .ldxAbsY a => encodeWord a
  | .ldyImm v => [v]
  | .ldyZp z => [z]
  | .ldyAbs a => encodeWord a
  | .ldyZpX z => [z]
  | .ldyAbsX a => encodeWord a
  | .staIndX z => [z]
  | .staZp z => [z]
  | .staAbs a => encodeWord a
  | .staIndY z => [z]
  | .staZpX z => [z]
  | .staAbsY a => encodeWord a
  | .staAbsX a => encodeWord a
  | .stxZp z => [z]
  | .stxAbs a => encodeWord a
  | .stxZpY z => [z]
  | .styZp z => [z]
  | .styAbs a => encodeWord a
  | .styZpX z => [z]
  | .tax => []
  | .tay => []
  | .txa => []
  | .tya => []
  | .tsx => []
  | .txs => []
  | .adcIndX z => [z]
  | .adcZp z => [z]
  | .adcImm v => [v]
  | .adcAbs a => encodeWord a
  | .adcIndY z => [z]
  | .adcZpX z => [z]
  | .adcAbsY a => encodeWord a
  | .adcAbsX a => encodeWord a
  | .sbcIndX z => [z]
  | .sbcZp z => [z]
  | .sbcImm v => [v]
  | .sbcAbs a => encodeWord a
  | .sbcIndY z => [z]
  | .sbcZpX z => [z]
  | .sbcAbsY a => encodeWord a
  | .sbcAbsX a => encodeWord a
  | .andIndX z => [z]
  | .andZp z => [z]
  | .andImm v => [v]
  | .andAbs a => encodeWord a
  | .andIndY z => [z]
  | .andZpX z => [z]
  | .andAbsY a => encodeWord a
  | .andAbsX a => encodeWord a
  | .oraIndX z => [z]
  | .oraZp z => [z]
  | .oraImm v => [v]
  | .oraAbs a => encodeWord a
  | .oraIndY z => [z]
  | .oraZpX z => [z]
  | .oraAbsY a => encodeWord a
  | .oraAbsX a => encodeWord a
  | .eorIndX z => [z]
  | .eorZp z => [z]
  | .eorImm v => [v]
  | .eorAbs a => encodeWord a
  | .eorIndY z => [z]
  | .eorZpX z => [z]
  | .eorAbsY a => encodeWord a
  | .eorAbsX a => encodeWord a
  | .bitZp z => [z]
  | .bitAbs a => encodeWord a
  | .cmpIndX z => [z]
  | .cmpZp z => [z]
  | .cmpImm v => [v]
  | .cmpAbs a => encodeWord a
  | .cmpIndY z => [z]
  | .cmpZpX z => [z]
  | .cmpAbsY a => encodeWord a
  | .cmpAbsX a => encodeWord a
  | .cpxImm v => [v]
  | .cpxZp z => [z]
  | .cpxAbs a => encodeWord a
  | .cpyImm v => [v]
  | .cpyZp z => [z]
  | .cpyAbs a => encodeWord a
  | .incZp z => [z]
  | .incAbs a => encodeWord a
  | .incZpX z => [z]
  | .incAbsX a => encodeWord a
  | .decZp z => [z]
  | .decAbs a => encodeWord a
  | .decZpX z => [z]
  | .decAbsX a => encodeWord a
  | .inx => []
  | .iny => []
  | .dex => []
  | .dey => []
  | .aslZp z => [z]
  | .aslAcc => []
  | .aslAbs a => encodeWord a
  | .aslZpX z => [z]
  | .aslAbsX a => encodeWord a
  | .lsrZp z => [z]
  | .lsrAcc => []
  | .lsrAbs a => encodeWord a
  | .lsrZpX z => [z]
  | .lsrAbsX a => encodeWord a
  | .rolZp z => [z]
  | .rolAcc => []
  | .rolAbs a => encodeWord a
  | .rolZpX z => [z]
  | .rolAbsX a => encodeWord a
  | .rorZp z => [z]
  | .rorAcc => []
  | .rorAbs a => encodeWord a
  | .rorZpX z => [z]
  | .rorAbsX a => encodeWord a
  | .bpl off => encodeOffset off
  | .bmi off => encodeOffset off
  | .bvc off => encodeOffset off
  | .bvs off => encodeOffset off
  | .bcc off => encodeOffset off
  | .bcs off => encodeOffset off
  | .bne off => encodeOffset off
  | .beq off => encodeOffset off
  | .jmpAbs a => encodeWord a
  | .jmpInd a => encodeWord a
  | .jsr a => encodeWord a
  | .rts => []
  | .pha => []
  | .php => []
  | .pla => []
  | .plp => []
  | .clc => []
  | .cld => []
  | .cli => []
  | .clv => []
  | .sec => []
  | .sed => []
  | .sei => []
  | .nop => []
  | .brk => []
  | .rti => []

/-- The bytes of an instruction, in the order they stand in memory (30 R101). -/
def encode (i : Instr) : List Byte :=
  i.opcode :: i.operandBytes

/-- The instruction the decoder reads from bits numbered as spec/opcode_table.json numbers them (byte 0 in bits
7..0, byte 1 in bits 15..8, byte 2 in bits 23..16), every bit from `nbits` on being 0. -/
def decodeTableWord (nbits w : Nat) : Option Instr :=
  let n := w % 2 ^ nbits
  match decode [BitVec.ofNat 8 n, BitVec.ofNat 8 (n / 256), BitVec.ofNat 8 (n / 65536)] with
  | .ok (i, _) => some i
  | .error _ => none

end Sys2Proof
end

