-- ==== Sys2Proof/Config.lean ====
section
/-! DEFINITION. The free values: what the manual leaves OPEN and every run may draw anew (92, "Named parameters left
OPEN"). Each is an opaque constant, so that a proof holds whatever its value. -/

namespace Sys2Proof

/-- The n-th draw: the byte returned by a read of an unmapped address (20 R60, `UNMAPPED_READ`), of an APU register
(20 R58), of 0x4014 (20 R54), by a DMA read of those ranges (20 R66), and bits 7:1 of a controller read (60 R275).
DESIGN CHOICE (log 1), safe: `State.draws` counts the draws, so that each is fresh. -/
opaque Config.draw : Nat → Byte

/-- `IRQ_LINE`: the level of the maskable interrupt input at a CPU step number (60 R235), where the host has given no
level in `State.irqIn`. DESIGN CHOICE (log 2), safe. -/
opaque Config.irqLine : Nat → Bool

/-- `MASTER_PALETTE`: from a 6-bit colour and the three emphasis bits to packed RGB (60 R270). OPEN (log 3), safe. -/
opaque Config.masterPalette : BitVec 6 → BitVec 3 → BitVec 32

end Sys2Proof
end

