-- ==== Sys2Proof/Machine/Memory.lean ====
section
/-! DEFINITION. A memory of bytes as plain data: a list of (address, byte) cells in one canonical form, addresses
strictly rising and no cell equal to what an unlisted address reads as. Every memory of the machine (RAM, PRG, CHR,
PRG RAM, VRAM, palette, OAM) is one of these, keyed from 0. -/

namespace Sys2Proof.Machine

/-- A memory: its listed cells. -/
abbrev Mem := List Host.Cell

/-- What an unlisted address reads as. DESIGN CHOICE (log 6), unsafe: the power-on contents of every RAM are OPEN
(10 R44, 92 D11); the statements of this model hold for every contents, since the state's memories are arbitrary. -/
def Mem.fill : Byte := 0

/-- The byte at an address. -/
def Mem.read : Mem → Nat → Byte
  | [], _ => Mem.fill
  | (k, v) :: m, a => if a = k then v else if a < k then Mem.fill else Mem.read m a

/-- A cell put in front of cells with higher addresses, unless it holds the fill. -/
def Mem.put (a : Nat) (v : Byte) (m : Mem) : Mem :=
  if v = Mem.fill then m else (a, v) :: m

/-- The memory with the byte at an address replaced, in canonical form. -/
def Mem.write : Mem → Nat → Byte → Mem
  | [], a, v => Mem.put a v []
  | (k, w) :: m, a, v =>
    if a < k then Mem.put a v ((k, w) :: m)
    else if a = k then Mem.put a v m
    else (k, w) :: Mem.write m a v

/-- The cells are in canonical form, at addresses from `lo` up to below `size`. -/
def Mem.wfFrom (lo size : Nat) : Mem → Bool
  | [] => true
  | (k, v) :: m => decide (lo ≤ k) && decide (k < size) && (v != Mem.fill) && Mem.wfFrom (k + 1) size m

/-- The memory is in canonical form and lists no address outside its size. -/
def Mem.wf (size : Nat) (m : Mem) : Bool :=
  Mem.wfFrom 0 size m

/-- The memory that holds a list of bytes from an address on. -/
def Mem.ofBytesFrom (a : Nat) : List Byte → Mem
  | [] => []
  | b :: bs => Mem.put a b (Mem.ofBytesFrom (a + 1) bs)

/-- The memory that holds a list of bytes from address 0 on. -/
def Mem.ofBytes (bs : List Byte) : Mem :=
  Mem.ofBytesFrom 0 bs

end Sys2Proof.Machine
end

