-- ==== Sys2Proof/Machine/Devices.lean ====
section
/-! DEFINITION. The state of what the CPU reaches on its bus: the cartridge and its mapper (20 R70 to R87), the PPU
(60 R244) and the controllers (60 R273), with their power-on values (10 R44). -/

namespace Sys2Proof.Machine

/-- The MMC1 registers (20 R77). -/
structure Mmc1 where
  shiftValue : BitVec 5
  shiftCount : Nat
  control : BitVec 5
  chrBank0 : BitVec 5
  chrBank1 : BitVec 5
  prgBank : BitVec 5
  deriving DecidableEq, Repr

/-- MMC1 at power-on: the shift register empty, control 0x0C, the banks 0 (10 R44). -/
def Mmc1.powerOn : Mmc1 where
  shiftValue := 0
  shiftCount := 0
  control := 0x0C
  chrBank0 := 0
  chrBank1 := 0
  prgBank := 0

/-- The cartridge: the header's fields (20 R86), PRG ROM, CHR memory, PRG RAM and the mapper's registers (20 R70). -/
structure Cartridge where
  /-- `MAPPER` -/
  mapper : Byte
  /-- `PRG_BANKS`, banks of 16 KiB -/
  prgBanks : Nat
  /-- `CHR_BANKS`, banks of 8 KiB; 0 means 8 KiB of CHR RAM -/
  chrBanks : Nat
  /-- `HAS_PRG_RAM` -/
  hasPrgRam : Bool
  /-- `HEADER_MIRRORING`: true for vertical -/
  verticalMirroring : Bool
  prg : Mem
  chr : Mem
  prgRam : Mem
  mmc1 : Mmc1
  deriving DecidableEq, Repr

/-- A nametable mirroring mode (20 R91). -/
inductive Mirroring where
  | horizontal
  | vertical
  | oneScreenLower
  | oneScreenUpper
  deriving DecidableEq, Repr

/-- The mapper's kind, a tagged choice (20 R71). -/
inductive MapperKind where
  | nrom
  | mmc1
  deriving DecidableEq, Repr

/-- An entry of secondary OAM: an OAM index 0..63 with its four bytes (60 R244, R268). -/
structure SpriteEntry where
  index : Nat
  y : Byte
  tile : Byte
  attr : Byte
  x : Byte
  deriving DecidableEq, Repr

/-- The frame buffer: the pixels written so far, as (256 * y + x, packed RGB), keys strictly rising (60 R270).
DESIGN CHOICE (log 9), safe: a pixel not listed has never been written. -/
abbrev FrameBuffer := List (Nat × BitVec 32)

/-- The PPU (60 R244). -/
structure Ppu where
  ctrl : Byte
  mask : Byte
  vblank : Bool
  sprite0Hit : Bool
  spriteOverflow : Bool
  oamAddr : Byte
  oam : Mem
  secondary : List SpriteEntry
  v : BitVec 15
  t : BitVec 15
  fineX : BitVec 3
  w : Bool
  readBuffer : Byte
  ob : Byte
  obTimers : List Nat
  vram : Mem
  palette : Mem
  scanline : Int
  cycle : Nat
  dmaActive : Bool
  nmiOut : Bool
  frame : FrameBuffer
  deriving DecidableEq, Repr

/-- The controller ports (60 R273). -/
structure Pads where
  strobe : Bool
  buttons1 : Byte
  buttons2 : Byte
  shift1 : Byte
  shift2 : Byte
  deriving DecidableEq, Repr

/-- The controllers at power-on: released, strobe 0 (10 R44). -/
def Pads.powerOn : Pads where
  strobe := false
  buttons1 := 0
  buttons2 := 0
  shift1 := 0
  shift2 := 0

/-- The PPU at power-on with the OPEN contents of its memories (10 R44). The frame buffer has no stated value
(log 9). -/
def Ppu.powerOn (oam vram palette : Mem) : Ppu where
  ctrl := 0
  mask := 0
  vblank := false
  sprite0Hit := false
  spriteOverflow := false
  oamAddr := 0
  oam := oam
  secondary := []
  v := 0
  t := 0
  fineX := 0
  w := false
  readBuffer := 0
  ob := 0
  obTimers := [0, 0, 0, 0, 0, 0, 0, 0]
  vram := vram
  palette := palette
  scanline := -1
  cycle := 0
  dmaActive := false
  nmiOut := false
  frame := []

end Sys2Proof.Machine
end

