-- ==== Sys2Proof/Machine/Cartridge.lean ====
section
/-! DEFINITION. The cartridge's operations: NROM and MMC1 (20 R70 to R84), the reset vector (20 R64) and the iNES file
(20 R86, R87). -/

namespace Sys2Proof.Machine

/-- `PRG_SIZE` (20 R70). -/
def Cartridge.prgSize (c : Cartridge) : Nat :=
  c.prgBanks * 0x4000

/-- Whether the CHR memory is RAM (20 R70). -/
def Cartridge.chrIsRam (c : Cartridge) : Bool :=
  c.chrBanks == 0

/-- `CHR_SIZE` (20 R70). -/
def Cartridge.chrSize (c : Cartridge) : Nat :=
  if c.chrIsRam then 0x2000 else c.chrBanks * 0x2000

/-- The mapper is MMC1 for number 1 and NROM for every other number (20 R72). -/
def Cartridge.kind (c : Cartridge) : MapperKind :=
  if c.mapper = 1 then .mmc1 else .nrom

/-- The reset vector, read straight from the last 16 KiB bank of PRG ROM (20 R64). -/
def Cartridge.resetVector (c : Cartridge) : Word :=
  let lastBank := c.prgSize - 0x4000
  word (c.prg.read (lastBank + 0x3FFD)) (c.prg.read (lastBank + 0x3FFC))

/-- MMC1 `control[3:2]`, the PRG mode (20 R80). -/
def Mmc1.prgMode (m : Mmc1) : Nat :=
  m.control.toNat / 4 % 4

/-- The PRG offset that MMC1 shows at a CPU address 0x8000–0xFFFF (20 R81). -/
def mmc1PrgOffset (c : Cartridge) (addr : Nat) : Nat :=
  let n := c.prgBanks
  let bank16 := c.mmc1.prgBank.toNat % 16
  let inBank := fun bank => (bank % n) * 0x4000 + addr % 0x4000
  match c.mmc1.prgMode with
  | 2 => inBank (if addr < 0xC000 then 0 else bank16)
  | 3 => inBank (if addr < 0xC000 then bank16 else n - 1)
  | _ => (bank16 / 2 * 0x8000 + addr % 0x8000) % c.prgSize

/-- The PRG offset shown at a CPU address 0x8000–0xFFFF (20 R73, R81). -/
def Cartridge.prgOffset (c : Cartridge) (addr : Nat) : Nat :=
  match c.kind with
  | .nrom => (addr - 0x8000) % c.prgSize
  | .mmc1 => mmc1PrgOffset c addr

/-- `Mapper.read(addr)` (20 R71). -/
def Cartridge.read (c : Cartridge) (addr : Nat) : Byte :=
  c.prg.read (c.prgOffset addr)

/-- The register loaded by the fifth serial write, chosen by `addr[14:13]` of that write (20 R79). -/
def Mmc1.load (m : Mmc1) (addr : Nat) (value : BitVec 5) : Mmc1 :=
  match addr / 0x2000 % 4 with
  | 0 => { m with control := value }
  | 1 => { m with chrBank0 := value }
  | 2 => { m with chrBank1 := value }
  | _ => { m with prgBank := value }

/-- The MMC1 serial port (20 R78). -/
def Mmc1.serialWrite (m : Mmc1) (addr : Nat) (value : Byte) : Mmc1 :=
  if value.getLsbD 7 then
    { m with shiftValue := 0, shiftCount := 0, control := m.control ||| 0x0C }
  else
    let shifted := (m.shiftValue >>> 1) ||| (if value.getLsbD 0 then 0x10 else 0)
    if m.shiftCount = 4 then
      { m.load addr shifted with shiftValue := 0, shiftCount := 0 }
    else
      { m with shiftValue := shifted, shiftCount := m.shiftCount + 1 }

/-- `Mapper.write(addr, value)`: ignored by NROM (20 R74), the serial port of MMC1 (20 R78). -/
def Cartridge.write (c : Cartridge) (addr : Nat) (value : Byte) : Cartridge :=
  match c.kind with
  | .nrom => c
  | .mmc1 => { c with mmc1 := c.mmc1.serialWrite addr value }

/-- The CHR offset that MMC1 shows at a PPU address 0x0000–0x1FFF (20 R82). -/
def mmc1ChrOffset (c : Cartridge) (a : Nat) : Nat :=
  if c.mmc1.control.getLsbD 4 then
    let bank4 := if a < 0x1000 then c.mmc1.chrBank0 else c.mmc1.chrBank1
    (bank4.toNat * 0x1000 + a % 0x1000) % c.chrSize
  else
    (c.mmc1.chrBank0.toNat / 2 * 0x2000 + a) % c.chrSize

/-- The CHR offset shown at a PPU address 0x0000–0x1FFF (20 R75, R82). -/
def Cartridge.chrOffset (c : Cartridge) (a : Nat) : Nat :=
  match c.kind with
  | .nrom => a
  | .mmc1 => mmc1ChrOffset c a

/-- `Mapper.readCHR(a)` (20 R75, R82). -/
def Cartridge.readChr (c : Cartridge) (a : Nat) : Byte :=
  c.chr.read (c.chrOffset a)

/-- `Mapper.writeCHR(a, value)`: only when the CHR memory is RAM (20 R75, R82). -/
def Cartridge.writeChr (c : Cartridge) (a : Nat) (value : Byte) : Cartridge :=
  if c.chrIsRam then { c with chr := c.chr.write (c.chrOffset a) value } else c

/-- MMC1's mirroring, `control[1:0]` (20 R80, R84). -/
def Mmc1.mirroring (m : Mmc1) : Mirroring :=
  match m.control.toNat % 4 with
  | 0 => .oneScreenLower
  | 1 => .oneScreenUpper
  | 2 => .vertical
  | _ => .horizontal

/-- `mirroring()`: the header's mode under NROM (20 R76), the control register's under MMC1 (20 R84). -/
def Cartridge.mirroring (c : Cartridge) : Mirroring :=
  match c.kind with
  | .nrom => if c.verticalMirroring then .vertical else .horizontal
  | .mmc1 => c.mmc1.mirroring

/-- `MIRROR(mode, n)`: the physical page of logical nametable n (20 R91). -/
def mirrorPage : Mirroring → Nat → Nat
  | .horizontal, n => n / 2 % 2
  | .vertical, n => n % 2
  | .oneScreenLower, _ => 0
  | .oneScreenUpper, _ => 1

/-- Why an iNES file is refused at load (20 R87). -/
inductive LoadError where
  /-- The first four bytes are not the magic. -/
  | badMagic
  /-- The file is shorter than its header says. -/
  | truncated
  /-- `PRG_BANKS` is 0: there is no reset vector. -/
  | noPrg
  deriving DecidableEq, Repr

/-- The magic, "NES" and 0x1A (20 R86). -/
def inesMagic : List Byte :=
  [0x4E, 0x45, 0x53, 0x1A]

/-- `MAPPER = (flags7[7:4] << 4) | flags6[7:4]` (20 R86). -/
def inesMapper (flags6 flags7 : Byte) : Byte :=
  (flags7 &&& 0xF0) ||| (flags6 >>> 4)

/-- The length of the header and the trainer before the PRG data (20 R86). -/
def inesPrgStart (flags6 : Byte) : Nat :=
  16 + (if flags6.getLsbD 2 then 512 else 0)

/-- The cartridge at power-on: the mapper's registers at their power-on values, and the OPEN contents in the memories
that are RAM (10 R44). -/
def Cartridge.powerOn (c : Cartridge) (chrRam prgRam : Mem) : Cartridge :=
  { c with
    chr := if c.chrIsRam then chrRam else c.chr
    prgRam := if c.hasPrgRam then prgRam else []
    mmc1 := Mmc1.powerOn }

/-- The cartridge of an iNES file, or the reason it is refused (20 R86, R87). Its RAMs get their contents at power-on. -/
def Cartridge.ofFile (file : List Byte) : Except LoadError Cartridge :=
  let prgBanks := (file.getD 4 0).toNat
  let chrBanks := (file.getD 5 0).toNat
  let flags6 := file.getD 6 0
  let flags7 := file.getD 7 0
  let prgStart := inesPrgStart flags6
  let chrStart := prgStart + prgBanks * 0x4000
  if file.take 4 ≠ inesMagic then .error .badMagic
  else if file.length < 16 ∨ file.length < chrStart + chrBanks * 0x2000 then .error .truncated
  else if prgBanks = 0 then .error .noPrg
  else .ok {
    mapper := inesMapper flags6 flags7
    prgBanks := prgBanks
    chrBanks := chrBanks
    hasPrgRam := flags6.getLsbD 1
    verticalMirroring := flags6.getLsbD 0
    prg := Mem.ofBytes ((file.drop prgStart).take (prgBanks * 0x4000))
    chr := Mem.ofBytes ((file.drop chrStart).take (chrBanks * 0x2000))
    prgRam := []
    mmc1 := Mmc1.powerOn }

end Sys2Proof.Machine
end

