-- ==== Sys2Proof/Machine/Flags.lean ====
section
/-! DEFINITION. The status register P (10 R26 to R36) and every flag computation of the instructions
(40 R141 to R143, 43 R190 to R193). -/

namespace Sys2Proof.Machine

/-- The stored flags of P (10 R26). B and bit 5 have no storage (10 R31, R32). -/
structure Flags where
  n : Bool
  v : Bool
  d : Bool
  i : Bool
  z : Bool
  c : Bool
  deriving DecidableEq, Repr

/-- `toByte(P, b)`: the byte pushed for P, with bit 5 set and bit 4 = `b` (10 R35). -/
def Flags.toByte (p : Flags) (b : Bool) : Byte :=
  bitAt p.n 7 ||| bitAt p.v 6 ||| bitAt true 5 ||| bitAt b 4 |||
    bitAt p.d 3 ||| bitAt p.i 2 ||| bitAt p.z 1 ||| bitAt p.c 0

/-- `fromByte(v)`: the flags of a pulled byte, bits 5 and 4 ignored (10 R36). -/
def Flags.fromByte (v : Byte) : Flags where
  n := v.getLsbD 7
  v := v.getLsbD 6
  d := v.getLsbD 3
  i := v.getLsbD 2
  z := v.getLsbD 1
  c := v.getLsbD 0

/-- `updateZN(v)`: Z = (v == 0), N = bit 7 of v (40 R141). -/
def Flags.updateZN (v : Byte) (p : Flags) : Flags :=
  { p with z := v == 0, n := v.getLsbD 7 }

/-- `compare(reg, val)`: Z, C as unsigned `reg >= val`, N of the wrapped difference; V stays (40 R142). -/
def Flags.compare (reg val : Byte) (p : Flags) : Flags :=
  { p with
    z := reg == val
    c := decide (val.toNat ≤ reg.toNat)
    n := (reg - val).getLsbD 7 }

/-- BIT's flags: Z of `A & m`, N and V from bits 7 and 6 of m (42 R175). -/
def Flags.bitTest (a m : Byte) (p : Flags) : Flags :=
  { p with z := (a &&& m) == 0, n := m.getLsbD 7, v := m.getLsbD 6 }

/-- The exact sum `A + m + P.C`, 0..511 (40 R143). -/
def carrySum (a m : Byte) (c : Bool) : Nat :=
  a.toNat + m.toNat + c.toNat

/-- The sum truncated to 8 bits (40 R143). -/
def addResult (a m : Byte) (c : Bool) : Byte :=
  BitVec.ofNat 8 (carrySum a m c)

/-- `addWithCarry`'s flags: C of the exact sum, V of the signed overflow, Z and N of the result (40 R143). -/
def Flags.addWithCarry (a m : Byte) (p : Flags) : Flags :=
  let r := addResult a m p.c
  Flags.updateZN r
    { p with
      c := decide (0xFF < carrySum a m p.c)
      v := ((~~~(a ^^^ m)) &&& (a ^^^ r) &&& 0x80) != 0 }

/-- What a shift or rotate gives: the shifted byte and the bit shifted off. -/
structure Shifted where
  result : Byte
  carry : Bool
  deriving DecidableEq, Repr

/-- ASL: bit 0 becomes 0, bit 7 goes to C (43 R190). -/
def shiftLeft (m : Byte) (_carryIn : Bool) : Shifted :=
  ⟨m <<< 1, m.getLsbD 7⟩

/-- LSR: bit 7 becomes 0, bit 0 goes to C (43 R191). -/
def shiftRight (m : Byte) (_carryIn : Bool) : Shifted :=
  ⟨m >>> 1, m.getLsbD 0⟩

/-- ROL: the old carry enters bit 0, bit 7 goes to C (43 R192). -/
def rotateLeft (m : Byte) (carryIn : Bool) : Shifted :=
  ⟨(m <<< 1) ||| bitAt carryIn 0, m.getLsbD 7⟩

/-- ROR: the old carry enters bit 7, bit 0 goes to C (43 R193). -/
def rotateRight (m : Byte) (carryIn : Bool) : Shifted :=
  ⟨(m >>> 1) ||| bitAt carryIn 7, m.getLsbD 0⟩

end Sys2Proof.Machine
end

