-- ==== Sys2Proof/Machine/State.lean ====
section
/-! DEFINITION. The machine's state as plain data (10 R20 to R42), the reasons a step can stop, and the state after
power-on (10 R43, R44, 70 R300, R301). -/

namespace Sys2Proof.Machine

/-- The reasons the machine stops with a fault. -/
inductive Fault where
  /-- `UnimplementedOpcode(opcode, address)` (00 R10, 60 R231). Recorded in `State.fault` by the step that fetches one
  of the 105 `INVALID` bytes, and answered by every later step. Safe: the spec's own fault. -/
  | unimplementedOpcode (opcode : Byte) (address : Word)
  deriving DecidableEq, Repr

/-- The reasons an instruction is refused. -/
inductive Refusal where
  /-- Raised by `exec` for an instruction that has no meaning yet; every instruction has one, so nothing raises it.
  Safe. -/
  | notModelled (mnemonic : String)
  deriving DecidableEq, Repr

/-- The parameter `OAM_DMA_STALL` (20 R63). -/
inductive OamDmaStall where
  | zero
  | hardware
  deriving DecidableEq, Repr

/-- The whole state. The fields up to `pads` are the spec's; `oamDmaStall` is its parameter; the last three are the
model's own (log 14). -/
structure State where
  /-- Accumulator (10 R21). -/
  a : Byte
  /-- Index register X (10 R22). -/
  x : Byte
  /-- Index register Y (10 R23). -/
  y : Byte
  /-- Stack pointer S (10 R24). -/
  sp : Byte
  /-- Program counter (10 R25). -/
  pc : Word
  /-- Status register (10 R26). -/
  p : Flags
  /-- `page_crossed` (10 R37). -/
  pageCrossed : Bool
  /-- `branch_taken` (10 R37). -/
  branchTaken : Bool
  /-- `dma_stall` (40 R120). -/
  dmaStall : Nat
  /-- `nmi_pending` (10 R38). -/
  nmiPending : Bool
  /-- `fault` (10 R39). -/
  fault : Option Fault
  /-- `total_cycles` (10 R40). -/
  totalCycles : Nat
  /-- Internal RAM (20 R56). -/
  ram : Mem
  /-- Cartridge and mapper (20 R70). -/
  cart : Cartridge
  /-- PPU (60 R244). -/
  ppu : Ppu
  /-- Controllers (60 R273). -/
  pads : Pads
  /-- `OAM_DMA_STALL`, never written (20 R63; log 10). -/
  oamDmaStall : OamDmaStall
  /-- The model's: `IRQ_LINE` levels the host has given for the next CPU steps (log 2). -/
  irqIn : List Bool
  /-- The model's: the CPU step number (log 2). -/
  stepNo : Nat
  /-- The model's: how many draws have been taken (log 1). -/
  draws : Nat
  deriving DecidableEq, Repr

/-- The values the spec leaves OPEN at power-on: `RESET_A/X/Y`, `RESET_FLAGS` and `INIT_*` (92 D9, D11). -/
structure OpenValues where
  a : Byte
  x : Byte
  y : Byte
  n : Bool
  v : Bool
  d : Bool
  z : Bool
  c : Bool
  ram : Mem
  prgRam : Mem
  chrRam : Mem
  vram : Mem
  palette : Mem
  oam : Mem
  deriving DecidableEq, Repr

/-- The OPEN values this model names: every register and flag 0, every memory as `Mem.fill`.
DESIGN CHOICE (logs 4, 5, 6), unsafe. -/
def OpenValues.zero : OpenValues where
  a := 0
  x := 0
  y := 0
  n := false
  v := false
  d := false
  z := false
  c := false
  ram := []
  prgRam := []
  chrRam := []
  vram := []
  palette := []
  oam := []

/-- The power-on state for a cartridge, the OPEN values and the DMA parameter (10 R43, R44; 70 R300, R301). -/
def State.powerOn (cart : Cartridge) (o : OpenValues) (stall : OamDmaStall) : State where
  a := o.a
  x := o.x
  y := o.y
  sp := 0xFD
  pc := cart.resetVector
  p := { n := o.n, v := o.v, d := o.d, i := true, z := o.z, c := o.c }
  pageCrossed := false
  branchTaken := false
  dmaStall := 0
  nmiPending := false
  fault := none
  totalCycles := 0
  ram := o.ram
  cart := cart.powerOn o.chrRam o.prgRam
  ppu := Ppu.powerOn o.oam o.vram o.palette
  pads := Pads.powerOn
  oamDmaStall := stall
  irqIn := []
  stepNo := 0
  draws := 0

/-- The host's load: the power-on state of an iNES file, or a refusal (70 R300, 20 R87). -/
def State.load (file : List Byte) (o : OpenValues) (stall : OamDmaStall) : Except LoadError State :=
  match Cartridge.ofFile file with
  | .ok cart => .ok (State.powerOn cart o stall)
  | .error e => .error e

/-- The cartridge of `State.reset`: the convention of 95 (NROM, 32 KiB PRG, CHR RAM, PRG RAM, horizontal mirroring)
with no program in it. DESIGN CHOICE (log 7). -/
def Cartridge.blank : Cartridge where
  mapper := 0
  prgBanks := 2
  chrBanks := 0
  hasPrgRam := true
  verticalMirroring := false
  prg := []
  chr := []
  prgRam := []
  mmc1 := Mmc1.powerOn

/-- The machine right after power-on, with no program in its cartridge. -/
def State.reset : State :=
  State.powerOn Cartridge.blank OpenValues.zero .zero

/-- What a step or a meaning answers. -/
abbrev StepResult := Host.Outcome State Fault Refusal

end Sys2Proof.Machine
end

