-- ==== Sys2Proof/Machine/Access.lean ====
section
/-! DEFINITION. The accessors of State: one named update per field (00 R8), and the model's inputs: the next draw and
the level of `IRQ_LINE`. -/

namespace Sys2Proof.Machine

def State.setA (s : State) (v : Byte) : State := { s with a := v }
def State.setX (s : State) (v : Byte) : State := { s with x := v }
def State.setY (s : State) (v : Byte) : State := { s with y := v }
def State.setSp (s : State) (v : Byte) : State := { s with sp := v }
def State.setPc (s : State) (v : Word) : State := { s with pc := v }
def State.setP (s : State) (v : Flags) : State := { s with p := v }
def State.setPageCrossed (s : State) (v : Bool) : State := { s with pageCrossed := v }
def State.setBranchTaken (s : State) (v : Bool) : State := { s with branchTaken := v }
def State.setDmaStall (s : State) (v : Nat) : State := { s with dmaStall := v }
def State.setNmiPending (s : State) (v : Bool) : State := { s with nmiPending := v }
def State.setFault (s : State) (v : Option Fault) : State := { s with fault := v }
def State.setTotalCycles (s : State) (v : Nat) : State := { s with totalCycles := v }
def State.setRam (s : State) (v : Mem) : State := { s with ram := v }
def State.setCart (s : State) (v : Cartridge) : State := { s with cart := v }
def State.setPpu (s : State) (v : Ppu) : State := { s with ppu := v }
def State.setPads (s : State) (v : Pads) : State := { s with pads := v }
def State.setIrqIn (s : State) (v : List Bool) : State := { s with irqIn := v }
def State.setStepNo (s : State) (v : Nat) : State := { s with stepNo := v }
def State.setDraws (s : State) (v : Nat) : State := { s with draws := v }

/-- `updateZN(v)` on the state's P (40 R141). -/
def State.updateZN (s : State) (v : Byte) : State := s.setP (s.p.updateZN v)

/-- The next draw, and the state that has taken it (log 1). -/
def State.draw (s : State) : Byte × State :=
  (Config.draw s.draws, s.setDraws (s.draws + 1))

/-- The level of `IRQ_LINE` sampled by the next CPU step (60 R235): the host's next level, or the free one (log 2). -/
def State.irqLevel (s : State) : Bool :=
  match s.irqIn with
  | level :: _ => level
  | [] => Config.irqLine s.stepNo

/-- The state with the level of this step used up (log 2). -/
def State.nextInput (s : State) : State :=
  (s.setIrqIn s.irqIn.tail).setStepNo (s.stepNo + 1)

end Sys2Proof.Machine
end

