-- ==== Sys2Proof/Machine/Controllers.lean ====
section
/-! DEFINITION. The two controller ports (60 R273 to R275). -/

namespace Sys2Proof.Machine

/-- The shift registers loaded from the buttons while the strobe is 1 (60 R274). -/
def Pads.latch (u : Pads) : Pads :=
  if u.strobe then { u with shift1 := u.buttons1, shift2 := u.buttons2 } else u

/-- A write of 0x4016 (60 R274). -/
def Pads.writeStrobe (value : Byte) (u : Pads) : Pads :=
  Pads.latch { u with strobe := value.getLsbD 0 }

/-- The host's push of port 1's buttons (60 R273, R291). While the strobe is 1 the shift registers follow (60 R274).
DEDUCED (log 13), unsafe. -/
def Pads.setButtons (buttons : Byte) (u : Pads) : Pads :=
  Pads.latch { u with buttons1 := buttons }

/-- The shift register after a read with the strobe at 0 (60 R275). -/
def shiftOut (shift : Byte) : Byte :=
  (shift >>> 1) ||| 0x80

/-- The bit a read of port 1 gives, and the port after it (60 R275). -/
def Pads.read1 (u : Pads) : Bool × Pads :=
  if u.strobe then (u.buttons1.getLsbD 0, { u with shift1 := u.buttons1 })
  else (u.shift1.getLsbD 0, { u with shift1 := shiftOut u.shift1 })

/-- The bit a read of port 2 gives, and the port after it (60 R275). -/
def Pads.read2 (u : Pads) : Bool × Pads :=
  if u.strobe then (u.buttons2.getLsbD 0, { u with shift2 := u.buttons2 })
  else (u.shift2.getLsbD 0, { u with shift2 := shiftOut u.shift2 })

/-- A controller read's byte: bits 7:1 are a draw (60 R275). -/
def padByte (r : Bool × Pads) (s : State) : Byte × State :=
  let d := s.draw
  ((d.1 &&& 0xFE) ||| bitAt r.1 0, d.2.setPads r.2)

end Sys2Proof.Machine
end

