-- ==== Sys2Proof/Machine/PpuMemory.lean ====
section
/-! DEFINITION. The PPU's memory map (20 R88 to R93): pattern tables, nametables, palette. Every PPU address is taken
modulo 0x4000, so the map is total. -/

namespace Sys2Proof.Machine

/-- The VRAM index of a nametable address 0x2000–0x3EFF (20 R90; 0x3000–0x3EFF mirrors 0x2000–0x2EFF, 20 R88). -/
def vramIndex (c : Cartridge) (a : Nat) : Nat :=
  mirrorPage c.mirroring (a / 0x400 % 4) * 0x400 + a % 0x400

/-- The palette index of an address 0x3F00–0x3FFF, with the aliases 0x10/0x14/0x18/0x1C (20 R92). -/
def paletteIndex (a : Nat) : Nat :=
  let p := a % 0x20
  if 0x10 ≤ p ∧ p % 4 = 0 then p - 0x10 else p

/-- `PpuRead(addr)` (20 R88 to R92). -/
def ppuRead (addr : Word) (s : State) : Byte :=
  let a := addr.toNat % 0x4000
  if a < 0x2000 then s.cart.readChr a
  else if a < 0x3F00 then s.ppu.vram.read (vramIndex s.cart a)
  else s.ppu.palette.read (paletteIndex a)

/-- `PpuWrite(addr, value)` (20 R88 to R92). -/
def ppuWrite (addr : Word) (value : Byte) (s : State) : State :=
  let a := addr.toNat % 0x4000
  if a < 0x2000 then s.setCart (s.cart.writeChr a value)
  else if a < 0x3F00 then
    s.setPpu { s.ppu with vram := s.ppu.vram.write (vramIndex s.cart a) value }
  else
    s.setPpu { s.ppu with palette := s.ppu.palette.write (paletteIndex a) (value &&& 0x3F) }

end Sys2Proof.Machine
end

