-- ==== Sys2Proof/Machine/PpuRegs.lean ====
section
/-! DEFINITION. The PPU's register contract (60 R247 to R258), its open-bus latch (60 R262) and its NMI output
(60 R234). -/

namespace Sys2Proof.Machine

/-- The eight PPU registers (60 R247). -/
inductive PpuReg where
  | ctrl | mask | status | oamAddr | oamData | scroll | addr | data
  deriving DecidableEq, Repr

/-- The register of a select `addr & 7` (20 R57). -/
def PpuReg.ofSelect : Nat → PpuReg
  | 0 => .ctrl
  | 1 => .mask
  | 2 => .status
  | 3 => .oamAddr
  | 4 => .oamData
  | 5 => .scroll
  | 6 => .addr
  | _ => .data

/-- `THRESH[0..7]`, in PPU cycles (60 R262). -/
def obThresholds : List Nat :=
  [180000, 180000, 180000, 180000, 300000, 600000, 600000, 600000]

/-- `Refresh(value, bits)` for the bits of a mask (60 R262). -/
def Ppu.refresh (mask value : Byte) (u : Ppu) : Ppu :=
  { u with
    ob := mergeBits mask value u.ob
    obTimers := List.zipWith (fun i t => if mask.getLsbD i then 0 else t) (List.range 8) u.obTimers }

/-- `OpenBusTick()` (60 R262): every timer below its threshold counts, and a bit whose timer is at its threshold is
cleared. -/
def Ppu.openBusTick (u : Ppu) : Ppu :=
  let timers := List.zipWith (fun t th => if t < th then t + 1 else t) u.obTimers obThresholds
  { u with
    obTimers := timers
    ob := u.ob &&& byteOfBits (List.zipWith (fun t th => decide (t < th)) timers obThresholds) }

/-- Updates `nmi_out = status.vblank AND ctrl[7]`; a rise sets `nmi_pending` (60 R234). -/
def updateNmiOut (s : State) : State :=
  let level := s.ppu.vblank && s.ppu.ctrl.getLsbD 7
  (s.setNmiPending (s.nmiPending || (level && !s.ppu.nmiOut))).setPpu { s.ppu with nmiOut := level }

/-- An OAM byte with bits 4:2 of attribute bytes masked out (60 R253). -/
def oamMask (addr v : Byte) : Byte :=
  if addr.toNat % 4 = 2 then v &&& 0xE3 else v

/-- `writeOamData(b)` (60 R253). -/
def Ppu.writeOamData (b : Byte) (u : Ppu) : Ppu :=
  { u with
    oam := u.oam.write u.oamAddr.toNat (oamMask u.oamAddr b)
    oamAddr := u.oamAddr + 1 }

/-- `IncrementV()` (60 R258). -/
def Ppu.incrementV (u : Ppu) : Ppu :=
  { u with v := u.v + (if u.ctrl.getLsbD 2 then 32 else 1) }

/-- The PPU memory address of `v`, `v & 0x3FFF` (60 R259). -/
def Ppu.address (u : Ppu) : Word :=
  u.v.setWidth 16 &&& 0x3FFF

/-- The byte a read of $2002 returns (60 R251). -/
def Ppu.statusByte (u : Ppu) : Byte :=
  bitAt u.vblank 7 ||| bitAt u.sprite0Hit 6 ||| bitAt u.spriteOverflow 5 ||| (u.ob &&& 0x1F)

/-- A read of $2002 (60 R251). -/
def readStatus (s : State) : Byte × State :=
  let r := s.ppu.statusByte
  (r, updateNmiOut (s.setPpu (Ppu.refresh 0xE0 r { s.ppu with vblank := false, w := false })))

/-- A read of $2004 (60 R253): no increment. -/
def readOamData (s : State) : Byte × State :=
  let r := oamMask s.ppu.oamAddr (s.ppu.oam.read s.ppu.oamAddr.toNat)
  (r, s.setPpu (s.ppu.refresh 0xFF r))

/-- A read of $2007 (60 R256): buffered, but for the palette; open bus while a DMA is active (60 R272). -/
def readData (s : State) : Byte × State :=
  if s.ppu.dmaActive then (s.ppu.ob, s)
  else
    let a := s.ppu.address
    let isPalette := decide (0x3F00 ≤ a.toNat)
    let r := if isPalette then (ppuRead a s &&& 0x3F) ||| (s.ppu.ob &&& 0xC0) else s.ppu.readBuffer
    let buffer := if isPalette then ppuRead (a &&& 0x2FFF) s else ppuRead a s
    (r, s.setPpu (Ppu.refresh 0xFF r (Ppu.incrementV { s.ppu with readBuffer := buffer })))

/-- `PPU.readRegister(r)` (60 R247). -/
def ppuReadReg (r : PpuReg) (s : State) : Byte × State :=
  match r with
  | .status => readStatus s
  | .oamData => readOamData s
  | .data => readData s
  | .ctrl | .mask | .oamAddr | .scroll | .addr => (s.ppu.ob, s)

/-- A write of $2000 after the refresh (60 R248). -/
def writeCtrl (value : Byte) (s : State) : State :=
  updateNmiOut (s.setPpu { s.ppu with
    ctrl := value
    t := (s.ppu.t &&& 0x73FF) ||| ((value &&& 0x03).setWidth 15 <<< 10) })

/-- A write of $2005 after the refresh (60 R254). -/
def Ppu.writeScroll (value : Byte) (u : Ppu) : Ppu :=
  if u.w then
    { u with
      t := (u.t &&& 0x0C1F) ||| ((value &&& 0x07).setWidth 15 <<< 12) ||| ((value >>> 3).setWidth 15 <<< 5)
      w := false }
  else
    { u with
      t := (u.t &&& 0x7FE0) ||| (value >>> 3).setWidth 15
      fineX := value.setWidth 3
      w := true }

/-- A write of $2006 after the refresh (60 R255). -/
def Ppu.writeAddr (value : Byte) (u : Ppu) : Ppu :=
  if u.w then
    let t := (u.t &&& 0x7F00) ||| value.setWidth 15
    { u with t := t, v := t, w := false }
  else
    { u with t := (u.t &&& 0x00FF) ||| ((value &&& 0x3F).setWidth 15 <<< 8), w := true }

/-- A write of $2007 after the refresh (60 R257). -/
def writeData (value : Byte) (s : State) : State :=
  let s' := ppuWrite s.ppu.address value s
  s'.setPpu s'.ppu.incrementV

/-- `PPU.writeRegister(r, value)`: the refresh of the whole latch, then the register's effect (60 R247). -/
def ppuWriteReg (r : PpuReg) (value : Byte) (s : State) : State :=
  let s := s.setPpu (s.ppu.refresh 0xFF value)
  match r with
  | .ctrl => writeCtrl value s
  | .mask => s.setPpu { s.ppu with mask := value }
  | .status => s
  | .oamAddr => s.setPpu { s.ppu with oamAddr := value }
  | .oamData => s.setPpu (s.ppu.writeOamData value)
  | .scroll => s.setPpu (s.ppu.writeScroll value)
  | .addr => s.setPpu (s.ppu.writeAddr value)
  | .data => writeData value s

end Sys2Proof.Machine
end

