-- ==== Sys2Proof/Machine/Ops.lean ====
section
/-! DEFINITION. The named operations over memory and registers: the CPU bus (20 R54, R55), OAM DMA (20 R62, R63, R66),
the two-byte reads (20 R51), the instruction fetch (40 R125), the stack (40 R124), and taking an exception and returning
from one (45 R222, R223; 60 R236, R237). -/

namespace Sys2Proof.Machine

/-- What a CPU address names, after mirroring. -/
inductive BusDevice where
  | ram (offset : Nat)
  | ppu (r : PpuReg)
  | oamDma
  | pad1
  | pad2
  | apu
  | unmapped
  | prgRam (offset : Nat)
  | cartridge
  deriving DecidableEq, Repr

/-- The CPU address decoder, total: every address maps to exactly one device (20 R50, R54). -/
def busDevice (hasPrgRam : Bool) (addr : Word) : BusDevice :=
  let a := addr.toNat
  if a < 0x2000 then .ram (a % 0x0800)
  else if a < 0x4000 then .ppu (PpuReg.ofSelect (a % 8))
  else if a = 0x4014 then .oamDma
  else if a = 0x4016 then .pad1
  else if a = 0x4017 then .pad2
  else if a < 0x4016 then .apu
  else if a < 0x6000 then .unmapped
  else if a < 0x8000 then if hasPrgRam then .prgRam (a - 0x6000) else .unmapped
  else .cartridge

/-- The device an address names in a state. -/
def State.device (s : State) (addr : Word) : BusDevice :=
  busDevice s.cart.hasPrgRam addr

/-- `MemRead(addr, 1)`: the byte, and the state after the read's side effects (20 R53, R54). -/
def memRead (addr : Word) (s : State) : Byte × State :=
  match s.device addr with
  | .ram o => (s.ram.read o, s)
  | .ppu r => ppuReadReg r s
  | .oamDma | .apu | .unmapped => s.draw
  | .pad1 => padByte s.pads.read1 s
  | .pad2 => padByte s.pads.read2 s
  | .prgRam o => (s.cart.prgRam.read o, s)
  | .cartridge => (s.cart.read addr.toNat, s)

/-- `DmaRead(addr)`: no side effect on any device (20 R66); its draws are the model's (log 1). -/
def dmaRead (addr : Word) (s : State) : Byte × State :=
  match s.device addr with
  | .ram o => (s.ram.read o, s)
  | .ppu _ => (s.ppu.ob, s)
  | .oamDma | .pad1 | .pad2 | .apu | .unmapped => s.draw
  | .prgRam o => (s.cart.prgRam.read o, s)
  | .cartridge => (s.cart.read addr.toNat, s)

/-- One byte of the OAM DMA copy (20 R62). -/
def dmaByte (pageNo : Byte) (s : State) (i : Nat) : State :=
  let r := dmaRead (word pageNo (BitVec.ofNat 8 i)) s
  r.2.setPpu (r.2.ppu.writeOamData r.1)

/-- `StallCycles()` (20 R63). -/
def stallCycles (s : State) : Nat :=
  match s.oamDmaStall with
  | .zero => 0
  | .hardware => if s.totalCycles % 2 = 0 then 513 else 514

/-- A write of 0x4014: the whole copy, inside the write (20 R62). -/
def oamDma (pageNo : Byte) (s : State) : State :=
  let s := s.setPpu { s.ppu with dmaActive := true }
  let s := (List.range 256).foldl (dmaByte pageNo) s
  let s := s.setPpu { s.ppu with dmaActive := false }
  s.setDmaStall (s.dmaStall + stallCycles s)

/-- `MemWrite(addr, 1, value)` (20 R53, R55). -/
def memWrite (addr : Word) (value : Byte) (s : State) : State :=
  match s.device addr with
  | .ram o => s.setRam (s.ram.write o value)
  | .ppu r => ppuWriteReg r value s
  | .oamDma => oamDma value s
  | .pad1 => s.setPads (s.pads.writeStrobe value)
  | .pad2 | .apu | .unmapped => s
  | .prgRam o => s.setCart { s.cart with prgRam := s.cart.prgRam.write o value }
  | .cartridge => s.setCart (s.cart.write addr.toNat value)

/-- The byte of memory at an address, read without any effect; `none` where no memory answers (a device or an unmapped
address). Statements about memory are made with it. -/
def State.peek (s : State) (addr : Word) : Option Byte :=
  match s.device addr with
  | .ram o => some (s.ram.read o)
  | .prgRam o => some (s.cart.prgRam.read o)
  | .cartridge => some (s.cart.read addr.toNat)
  | .ppu _ | .oamDma | .pad1 | .pad2 | .apu | .unmapped => none

/-- `Read16(addr)`: low byte first (20 R51). -/
def read16 (addr : Word) (s : State) : Word × State :=
  let lo := memRead addr s
  let hi := memRead (addr + 1) lo.2
  (word hi.1 lo.1, hi.2)

/-- `Read16ZP(z)`: the high byte's address wraps in page 0 (20 R51). -/
def read16Zp (z : Byte) (s : State) : Word × State :=
  let lo := memRead (zext16 z) s
  let hi := memRead (zext16 (z + 1)) lo.2
  (word hi.1 lo.1, hi.2)

/-- `FetchByte()` (40 R125). -/
def fetchByte (s : State) : Byte × State :=
  let r := memRead s.pc s
  (r.1, r.2.setPc (r.2.pc + 1))

/-- The operand bytes of an instruction, at most two; those it has not are 0 (40 R125). -/
def fetchOperands (n : Nat) (s : State) : (Byte × Byte) × State :=
  match n with
  | 0 => ((0, 0), s)
  | 1 =>
    let b1 := fetchByte s
    ((b1.1, 0), b1.2)
  | _ =>
    let b1 := fetchByte s
    let b2 := fetchByte b1.2
    ((b1.1, b2.1), b2.2)

/-- The address of the stack byte that S names, `0x0100 | S` (40 R124). -/
def stackAddr (sp : Byte) : Word :=
  0x0100 ||| zext16 sp

/-- `Push(v)`: write, then decrement (40 R124). -/
def push (v : Byte) (s : State) : State :=
  let s := memWrite (stackAddr s.sp) v s
  s.setSp (s.sp - 1)

/-- `Pull()`: increment, then read (40 R124). -/
def pull (s : State) : Byte × State :=
  let s := s.setSp (s.sp + 1)
  memRead (stackAddr s.sp) s

/-- Pushes a 16-bit value, high byte first (40 R124). -/
def pushWord (v : Word) (s : State) : State :=
  push (loByte v) (push (hiByte v) s)

/-- Pulls a 16-bit value, low byte first (40 R124). -/
def pullWord (s : State) : Word × State :=
  let lo := pull s
  let hi := pull lo.2
  (word hi.1 lo.1, hi.2)

/-- Taking an exception: push the return address and P with bit 4 = `b`, set I, load PC from the vector
(45 R222; 60 R236, R237). -/
def takeException (ret : Word) (b : Bool) (vector : Word) (s : State) : State :=
  let s := pushWord ret s
  let s := push (s.p.toByte b) s
  let s := s.setP { s.p with i := true }
  let target := read16 vector s
  target.2.setPc target.1

/-- The NMI vector (20 R65). -/
def nmiVector : Word := 0xFFFA

/-- The vector of IRQ and BRK (20 R65). -/
def irqVector : Word := 0xFFFE

/-- `InterruptEntry(NMI)` (60 R236). -/
def nmiEntry (s : State) : State :=
  takeException s.pc false nmiVector (s.setNmiPending false)

/-- `InterruptEntry(IRQ)` (60 R237). -/
def irqEntry (s : State) : State :=
  takeException s.pc false irqVector s

/-- The return from an exception: pull P, then PC (45 R223). -/
def returnFromException (s : State) : State :=
  let p := pull s
  let ret := pullWord (p.2.setP (Flags.fromByte p.1))
  ret.2.setPc ret.1

end Sys2Proof.Machine
end

