-- ==== Sys2Proof/Machine/Operands.lean ====
section
/-! DEFINITION. The operand forms: the addressing modes that locate an operand (40 R128 to R139) and the access to it
(40 R140). The operand bytes have been fetched already, so PC is the address of the next instruction (40 R125). -/

namespace Sys2Proof.Machine

/-- An operand form with its operand bytes (30 R102). -/
inductive Operand where
  | accumulator
  | immediate (v : Byte)
  | zeroPage (z : Byte)
  | zeroPageX (z : Byte)
  | zeroPageY (z : Byte)
  | absolute (a : Word)
  | absoluteX (a : Word)
  | absoluteY (a : Word)
  | indirectX (z : Byte)
  | indirectY (z : Byte)
  deriving DecidableEq, Repr

/-- Where an operand is (40 R140). -/
inductive Loc where
  | regA
  | imm (v : Byte)
  | mem (ea : Word)
  deriving DecidableEq, Repr

/-- A base address indexed with 16-bit wrap, and whether it left the base's page (40 R134, R135, R139). -/
def indexed (base : Word) (index : Byte) (s : State) : Loc × State :=
  let ea := base + zext16 index
  (.mem ea, s.setPageCrossed (page base != page ea))

/-- `Locate(mode)`, evaluated once, before any write (40 R140). -/
def locate (o : Operand) (s : State) : Loc × State :=
  match o with
  | .accumulator => (.regA, s)
  | .immediate v => (.imm v, s)
  | .zeroPage z => (.mem (zext16 z), s)
  | .zeroPageX z => (.mem (zext16 (z + s.x)), s)
  | .zeroPageY z => (.mem (zext16 (z + s.y)), s)
  | .absolute a => (.mem a, s)
  | .absoluteX a => indexed a s.x s
  | .absoluteY a => indexed a s.y s
  | .indirectX z =>
    let ptr := read16Zp (z + s.x) s
    (.mem ptr.1, ptr.2)
  | .indirectY z =>
    let ptr := read16Zp z s
    indexed ptr.1 ptr.2.y ptr.2

/-- `ReadOperand(loc)` (40 R140). -/
def readLoc (l : Loc) (s : State) : Byte × State :=
  match l with
  | .regA => (s.a, s)
  | .imm v => (v, s)
  | .mem ea => memRead ea s

/-- `WriteResult(loc, v)` (40 R140). An immediate is never a destination. -/
def writeLoc (l : Loc) (v : Byte) (s : State) : State :=
  match l with
  | .regA => s.setA v
  | .imm _ => s
  | .mem ea => memWrite ea v s

/-- The operand's value, located and read once (40 R140). -/
def readOperand (o : Operand) (s : State) : Byte × State :=
  let l := locate o s
  readLoc l.1 l.2

/-- A store: located, then written, with no read of the target (40 R140). -/
def storeOperand (o : Operand) (v : Byte) (s : State) : State :=
  let l := locate o s
  writeLoc l.1 v l.2

end Sys2Proof.Machine
end

