-- ==== Sys2Proof/Machine/Arith.lean ====
section
/-! DEFINITION. Arithmetic, logic, compare, increment and decrement (42 R170 to R184): the shared operations, then a
meaning per instruction. -/

namespace Sys2Proof.Machine

/-- `addWithCarry(m)` on the state (40 R143). D has no effect (42 R170). -/
def addWithCarry (m : Byte) (s : State) : State :=
  (s.setA (addResult s.a m s.p.c)).setP (s.p.addWithCarry s.a m)

/-- ADC (42 R170). -/
def adc (o : Operand) (s : State) : State :=
  let r := readOperand o s
  addWithCarry r.1 r.2

/-- SBC: ADC with the operand complemented (42 R171). -/
def sbc (o : Operand) (s : State) : State :=
  let r := readOperand o s
  addWithCarry (r.1 ^^^ 0xFF) r.2

/-- A logic instruction: A becomes `f A m`, then `updateZN` (42 R172 to R174). -/
def logicOp (f : Byte → Byte → Byte) (o : Operand) (s : State) : State :=
  let r := readOperand o s
  let v := f r.2.a r.1
  (r.2.setA v).updateZN v

/-- AND (42 R172). -/
def andA (o : Operand) (s : State) : State :=
  logicOp (fun a m => a &&& m) o s

/-- ORA (42 R173). -/
def oraA (o : Operand) (s : State) : State :=
  logicOp (fun a m => a ||| m) o s

/-- EOR (42 R174). -/
def eorA (o : Operand) (s : State) : State :=
  logicOp (fun a m => a ^^^ m) o s

/-- BIT (42 R175). -/
def bitA (o : Operand) (s : State) : State :=
  let r := readOperand o s
  r.2.setP (r.2.p.bitTest r.2.a r.1)

/-- CMP (42 R176). -/
def cmp (o : Operand) (s : State) : State :=
  let r := readOperand o s
  r.2.setP (r.2.p.compare r.2.a r.1)

/-- CPX (42 R177). -/
def cpx (o : Operand) (s : State) : State :=
  let r := readOperand o s
  r.2.setP (r.2.p.compare r.2.x r.1)

/-- CPY (42 R178). -/
def cpy (o : Operand) (s : State) : State :=
  let r := readOperand o s
  r.2.setP (r.2.p.compare r.2.y r.1)

/-- A read-modify-write of memory by `f`: one read and one write of one location (42 R179, R180). -/
def modifyOperand (f : Byte → Byte) (o : Operand) (s : State) : State :=
  let l := locate o s
  let m := readLoc l.1 l.2
  (writeLoc l.1 (f m.1) m.2).updateZN (f m.1)

/-- INC (42 R179). -/
def inc (o : Operand) (s : State) : State :=
  modifyOperand (fun m => m + 1) o s

/-- DEC (42 R180). -/
def dec (o : Operand) (s : State) : State :=
  modifyOperand (fun m => m - 1) o s

/-- INX (42 R181). -/
def inx (s : State) : State :=
  (s.setX (s.x + 1)).updateZN (s.x + 1)

/-- INY (42 R182). -/
def iny (s : State) : State :=
  (s.setY (s.y + 1)).updateZN (s.y + 1)

/-- DEX (42 R183). -/
def dex (s : State) : State :=
  (s.setX (s.x - 1)).updateZN (s.x - 1)

/-- DEY (42 R184). -/
def dey (s : State) : State :=
  (s.setY (s.y - 1)).updateZN (s.y - 1)

/-- ADC ($nn,X) (0x61; R170). -/
def execAdcIndX (z : Byte) (s : State) : StepResult :=
  .next (adc (.indirectX z) s)

/-- ADC $nn (0x65; R170). -/
def execAdcZp (z : Byte) (s : State) : StepResult :=
  .next (adc (.zeroPage z) s)

/-- ADC #$nn (0x69; R170). -/
def execAdcImm (v : Byte) (s : State) : StepResult :=
  .next (adc (.immediate v) s)

/-- ADC $nnnn (0x6D; R170). -/
def execAdcAbs (a : Word) (s : State) : StepResult :=
  .next (adc (.absolute a) s)

/-- ADC ($nn),Y (0x71; R170). -/
def execAdcIndY (z : Byte) (s : State) : StepResult :=
  .next (adc (.indirectY z) s)

/-- ADC $nn,X (0x75; R170). -/
def execAdcZpX (z : Byte) (s : State) : StepResult :=
  .next (adc (.zeroPageX z) s)

/-- ADC $nnnn,Y (0x79; R170). -/
def execAdcAbsY (a : Word) (s : State) : StepResult :=
  .next (adc (.absoluteY a) s)

/-- ADC $nnnn,X (0x7D; R170). -/
def execAdcAbsX (a : Word) (s : State) : StepResult :=
  .next (adc (.absoluteX a) s)

/-- SBC ($nn,X) (0xE1; R171). -/
def execSbcIndX (z : Byte) (s : State) : StepResult :=
  .next (sbc (.indirectX z) s)

/-- SBC $nn (0xE5; R171). -/
def execSbcZp (z : Byte) (s : State) : StepResult :=
  .next (sbc (.zeroPage z) s)

/-- SBC #$nn (0xE9; R171). -/
def execSbcImm (v : Byte) (s : State) : StepResult :=
  .next (sbc (.immediate v) s)

/-- SBC $nnnn (0xED; R171). -/
def execSbcAbs (a : Word) (s : State) : StepResult :=
  .next (sbc (.absolute a) s)

/-- SBC ($nn),Y (0xF1; R171). -/
def execSbcIndY (z : Byte) (s : State) : StepResult :=
  .next (sbc (.indirectY z) s)

/-- SBC $nn,X (0xF5; R171). -/
def execSbcZpX (z : Byte) (s : State) : StepResult :=
  .next (sbc (.zeroPageX z) s)

/-- SBC $nnnn,Y (0xF9; R171). -/
def execSbcAbsY (a : Word) (s : State) : StepResult :=
  .next (sbc (.absoluteY a) s)

/-- SBC $nnnn,X (0xFD; R171). -/
def execSbcAbsX (a : Word) (s : State) : StepResult :=
  .next (sbc (.absoluteX a) s)

/-- AND ($nn,X) (0x21; R172). -/
def execAndIndX (z : Byte) (s : State) : StepResult :=
  .next (andA (.indirectX z) s)

/-- AND $nn (0x25; R172). -/
def execAndZp (z : Byte) (s : State) : StepResult :=
  .next (andA (.zeroPage z) s)

/-- AND #$nn (0x29; R172). -/
def execAndImm (v : Byte) (s : State) : StepResult :=
  .next (andA (.immediate v) s)

/-- AND $nnnn (0x2D; R172). -/
def execAndAbs (a : Word) (s : State) : StepResult :=
  .next (andA (.absolute a) s)

/-- AND ($nn),Y (0x31; R172). -/
def execAndIndY (z : Byte) (s : State) : StepResult :=
  .next (andA (.indirectY z) s)

/-- AND $nn,X (0x35; R172). -/
def execAndZpX (z : Byte) (s : State) : StepResult :=
  .next (andA (.zeroPageX z) s)

/-- AND $nnnn,Y (0x39; R172). -/
def execAndAbsY (a : Word) (s : State) : StepResult :=
  .next (andA (.absoluteY a) s)

/-- AND $nnnn,X (0x3D; R172). -/
def execAndAbsX (a : Word) (s : State) : StepResult :=
  .next (andA (.absoluteX a) s)

/-- ORA ($nn,X) (0x01; R173). -/
def execOraIndX (z : Byte) (s : State) : StepResult :=
  .next (oraA (.indirectX z) s)

/-- ORA $nn (0x05; R173). -/
def execOraZp (z : Byte) (s : State) : StepResult :=
  .next (oraA (.zeroPage z) s)

/-- ORA #$nn (0x09; R173). -/
def execOraImm (v : Byte) (s : State) : StepResult :=
  .next (oraA (.immediate v) s)

/-- ORA $nnnn (0x0D; R173). -/
def execOraAbs (a : Word) (s : State) : StepResult :=
  .next (oraA (.absolute a) s)

/-- ORA ($nn),Y (0x11; R173). -/
def execOraIndY (z : Byte) (s : State) : StepResult :=
  .next (oraA (.indirectY z) s)

/-- ORA $nn,X (0x15; R173). -/
def execOraZpX (z : Byte) (s : State) : StepResult :=
  .next (oraA (.zeroPageX z) s)

/-- ORA $nnnn,Y (0x19; R173). -/
def execOraAbsY (a : Word) (s : State) : StepResult :=
  .next (oraA (.absoluteY a) s)

/-- ORA $nnnn,X (0x1D; R173). -/
def execOraAbsX (a : Word) (s : State) : StepResult :=
  .next (oraA (.absoluteX a) s)

/-- EOR ($nn,X) (0x41; R174). -/
def execEorIndX (z : Byte) (s : State) : StepResult :=
  .next (eorA (.indirectX z) s)

/-- EOR $nn (0x45; R174). -/
def execEorZp (z : Byte) (s : State) : StepResult :=
  .next (eorA (.zeroPage z) s)

/-- EOR #$nn (0x49; R174). -/
def execEorImm (v : Byte) (s : State) : StepResult :=
  .next (eorA (.immediate v) s)

/-- EOR $nnnn (0x4D; R174). -/
def execEorAbs (a : Word) (s : State) : StepResult :=
  .next (eorA (.absolute a) s)

/-- EOR ($nn),Y (0x51; R174). -/
def execEorIndY (z : Byte) (s : State) : StepResult :=
  .next (eorA (.indirectY z) s)

/-- EOR $nn,X (0x55; R174). -/
def execEorZpX (z : Byte) (s : State) : StepResult :=
  .next (eorA (.zeroPageX z) s)

/-- EOR $nnnn,Y (0x59; R174). -/
def execEorAbsY (a : Word) (s : State) : StepResult :=
  .next (eorA (.absoluteY a) s)

/-- EOR $nnnn,X (0x5D; R174). -/
def execEorAbsX (a : Word) (s : State) : StepResult :=
  .next (eorA (.absoluteX a) s)

/-- BIT $nn (0x24; R175). -/
def execBitZp (z : Byte) (s : State) : StepResult :=
  .next (bitA (.zeroPage z) s)

/-- BIT $nnnn (0x2C; R175). -/
def execBitAbs (a : Word) (s : State) : StepResult :=
  .next (bitA (.absolute a) s)

/-- CMP ($nn,X) (0xC1; R176). -/
def execCmpIndX (z : Byte) (s : State) : StepResult :=
  .next (cmp (.indirectX z) s)

/-- CMP $nn (0xC5; R176). -/
def execCmpZp (z : Byte) (s : State) : StepResult :=
  .next (cmp (.zeroPage z) s)

/-- CMP #$nn (0xC9; R176). -/
def execCmpImm (v : Byte) (s : State) : StepResult :=
  .next (cmp (.immediate v) s)

/-- CMP $nnnn (0xCD; R176). -/
def execCmpAbs (a : Word) (s : State) : StepResult :=
  .next (cmp (.absolute a) s)

/-- CMP ($nn),Y (0xD1; R176). -/
def execCmpIndY (z : Byte) (s : State) : StepResult :=
  .next (cmp (.indirectY z) s)

/-- CMP $nn,X (0xD5; R176). -/
def execCmpZpX (z : Byte) (s : State) : StepResult :=
  .next (cmp (.zeroPageX z) s)

/-- CMP $nnnn,Y (0xD9; R176). -/
def execCmpAbsY (a : Word) (s : State) : StepResult :=
  .next (cmp (.absoluteY a) s)

/-- CMP $nnnn,X (0xDD; R176). -/
def execCmpAbsX (a : Word) (s : State) : StepResult :=
  .next (cmp (.absoluteX a) s)

/-- CPX #$nn (0xE0; R177). -/
def execCpxImm (v : Byte) (s : State) : StepResult :=
  .next (cpx (.immediate v) s)

/-- CPX $nn (0xE4; R177). -/
def execCpxZp (z : Byte) (s : State) : StepResult :=
  .next (cpx (.zeroPage z) s)

/-- CPX $nnnn (0xEC; R177). -/
def execCpxAbs (a : Word) (s : State) : StepResult :=
  .next (cpx (.absolute a) s)

/-- CPY #$nn (0xC0; R178). -/
def execCpyImm (v : Byte) (s : State) : StepResult :=
  .next (cpy (.immediate v) s)

/-- CPY $nn (0xC4; R178). -/
def execCpyZp (z : Byte) (s : State) : StepResult :=
  .next (cpy (.zeroPage z) s)

/-- CPY $nnnn (0xCC; R178). -/
def execCpyAbs (a : Word) (s : State) : StepResult :=
  .next (cpy (.absolute a) s)

/-- INC $nn (0xE6; R179). -/
def execIncZp (z : Byte) (s : State) : StepResult :=
  .next (inc (.zeroPage z) s)

/-- INC $nnnn (0xEE; R179). -/
def execIncAbs (a : Word) (s : State) : StepResult :=
  .next (inc (.absolute a) s)

/-- INC $nn,X (0xF6; R179). -/
def execIncZpX (z : Byte) (s : State) : StepResult :=
  .next (inc (.zeroPageX z) s)

/-- INC $nnnn,X (0xFE; R179). -/
def execIncAbsX (a : Word) (s : State) : StepResult :=
  .next (inc (.absoluteX a) s)

/-- DEC $nn (0xC6; R180). -/
def execDecZp (z : Byte) (s : State) : StepResult :=
  .next (dec (.zeroPage z) s)

/-- DEC $nnnn (0xCE; R180). -/
def execDecAbs (a : Word) (s : State) : StepResult :=
  .next (dec (.absolute a) s)

/-- DEC $nn,X (0xD6; R180). -/
def execDecZpX (z : Byte) (s : State) : StepResult :=
  .next (dec (.zeroPageX z) s)

/-- DEC $nnnn,X (0xDE; R180). -/
def execDecAbsX (a : Word) (s : State) : StepResult :=
  .next (dec (.absoluteX a) s)

/-- INX (0xE8; R181). -/
def execInx (s : State) : StepResult :=
  .next (inx s)

/-- INY (0xC8; R182). -/
def execIny (s : State) : StepResult :=
  .next (iny s)

/-- DEX (0xCA; R183). -/
def execDex (s : State) : StepResult :=
  .next (dex s)

/-- DEY (0x88; R184). -/
def execDey (s : State) : StepResult :=
  .next (dey s)

end Sys2Proof.Machine
end

