-- ==== Sys2Proof/Machine/Control.lean ====
section
/-! DEFINITION. Branches, jumps, calls and returns (44 R195 to R206): the shared operations, then a meaning per
instruction. The operand bytes have been fetched already, so PC is the address of the next instruction. -/

namespace Sys2Proof.Machine

/-- The target of a branch: the next instruction's address plus the signed offset, with 16-bit wrap (40 R138). -/
def branchTarget (pc : Word) (off : Int) : Word :=
  pc + BitVec.ofInt 16 off

/-- `Branch(cond)` (44 R195). -/
def branch (cond : Bool) (off : Int) (s : State) : State :=
  let target := branchTarget s.pc off
  if cond then ((s.setBranchTaken true).setPageCrossed (page s.pc != page target)).setPc target else s

/-- BPL (44 R196). -/
def bpl (off : Int) (s : State) : State :=
  branch (!s.p.n) off s

/-- BMI (44 R197). -/
def bmi (off : Int) (s : State) : State :=
  branch s.p.n off s

/-- BVC (44 R198). -/
def bvc (off : Int) (s : State) : State :=
  branch (!s.p.v) off s

/-- BVS (44 R199). -/
def bvs (off : Int) (s : State) : State :=
  branch s.p.v off s

/-- BCC (44 R200). -/
def bcc (off : Int) (s : State) : State :=
  branch (!s.p.c) off s

/-- BCS (44 R201). -/
def bcs (off : Int) (s : State) : State :=
  branch s.p.c off s

/-- BNE (44 R202). -/
def bne (off : Int) (s : State) : State :=
  branch (!s.p.z) off s

/-- BEQ (44 R203). -/
def beq (off : Int) (s : State) : State :=
  branch s.p.z off s

/-- JMP absolute (44 R204, 40 R133). -/
def jmpAbsolute (a : Word) (s : State) : State :=
  s.setPc a

/-- The address of the high byte of an indirect JMP's pointer, in the pointer's own page (40 R136). -/
def pointerHigh (ptr : Word) : Word :=
  page ptr ||| ((ptr + 1) &&& 0x00FF)

/-- JMP indirect, with the page-wrap bug (44 R204, 40 R136). -/
def jmpIndirect (ptr : Word) (s : State) : State :=
  let lo := memRead ptr s
  let hi := memRead (pointerHigh ptr) lo.2
  hi.2.setPc (word hi.1 lo.1)

/-- JSR: pushes the address of its own last byte (44 R205). -/
def jsr (target : Word) (s : State) : State :=
  (pushWord (s.pc - 1) s).setPc target

/-- RTS: the pulled address plus 1 (44 R206). -/
def rts (s : State) : State :=
  let ret := pullWord s
  ret.2.setPc (ret.1 + 1)

/-- BPL label (0x10; R196). -/
def execBpl (off : Int) (s : State) : StepResult :=
  .next (bpl off s)

/-- BMI label (0x30; R197). -/
def execBmi (off : Int) (s : State) : StepResult :=
  .next (bmi off s)

/-- BVC label (0x50; R198). -/
def execBvc (off : Int) (s : State) : StepResult :=
  .next (bvc off s)

/-- BVS label (0x70; R199). -/
def execBvs (off : Int) (s : State) : StepResult :=
  .next (bvs off s)

/-- BCC label (0x90; R200). -/
def execBcc (off : Int) (s : State) : StepResult :=
  .next (bcc off s)

/-- BCS label (0xB0; R201). -/
def execBcs (off : Int) (s : State) : StepResult :=
  .next (bcs off s)

/-- BNE label (0xD0; R202). -/
def execBne (off : Int) (s : State) : StepResult :=
  .next (bne off s)

/-- BEQ label (0xF0; R203). -/
def execBeq (off : Int) (s : State) : StepResult :=
  .next (beq off s)

/-- JMP $nnnn (0x4C; R204). -/
def execJmpAbs (a : Word) (s : State) : StepResult :=
  .next (jmpAbsolute a s)

/-- JMP ($nnnn) (0x6C; R204). -/
def execJmpInd (a : Word) (s : State) : StepResult :=
  .next (jmpIndirect a s)

/-- JSR $nnnn (0x20; R205). -/
def execJsr (a : Word) (s : State) : StepResult :=
  .next (jsr a s)

/-- RTS (0x60; R206). -/
def execRts (s : State) : StepResult :=
  .next (rts s)

end Sys2Proof.Machine
end

