-- ==== Sys2Proof/Machine/LoadStore.lean ====
section
/-! DEFINITION. Loads, stores and transfers (41 R150 to R161): the shared operations, then a meaning per instruction. -/

namespace Sys2Proof.Machine

/-- LDA (41 R150). -/
def lda (o : Operand) (s : State) : State :=
  let r := readOperand o s
  (r.2.setA r.1).updateZN r.1

/-- LDX (41 R151). -/
def ldx (o : Operand) (s : State) : State :=
  let r := readOperand o s
  (r.2.setX r.1).updateZN r.1

/-- LDY (41 R152). -/
def ldy (o : Operand) (s : State) : State :=
  let r := readOperand o s
  (r.2.setY r.1).updateZN r.1

/-- STA (41 R153). -/
def sta (o : Operand) (s : State) : State :=
  storeOperand o s.a s

/-- STX (41 R154). -/
def stx (o : Operand) (s : State) : State :=
  storeOperand o s.x s

/-- STY (41 R155). -/
def sty (o : Operand) (s : State) : State :=
  storeOperand o s.y s

/-- TAX (41 R156). -/
def tax (s : State) : State :=
  (s.setX s.a).updateZN s.a

/-- TAY (41 R157). -/
def tay (s : State) : State :=
  (s.setY s.a).updateZN s.a

/-- TXA (41 R158). -/
def txa (s : State) : State :=
  (s.setA s.x).updateZN s.x

/-- TYA (41 R159). -/
def tya (s : State) : State :=
  (s.setA s.y).updateZN s.y

/-- TSX (41 R160). -/
def tsx (s : State) : State :=
  (s.setX s.sp).updateZN s.sp

/-- TXS writes no flag (41 R161). -/
def txs (s : State) : State :=
  s.setSp s.x

/-- LDA ($nn,X) (0xA1; R150). -/
def execLdaIndX (z : Byte) (s : State) : StepResult :=
  .next (lda (.indirectX z) s)

/-- LDA $nn (0xA5; R150). -/
def execLdaZp (z : Byte) (s : State) : StepResult :=
  .next (lda (.zeroPage z) s)

/-- LDA #$nn (0xA9; R150). -/
def execLdaImm (v : Byte) (s : State) : StepResult :=
  .next (lda (.immediate v) s)

/-- LDA $nnnn (0xAD; R150). -/
def execLdaAbs (a : Word) (s : State) : StepResult :=
  .next (lda (.absolute a) s)

/-- LDA ($nn),Y (0xB1; R150). -/
def execLdaIndY (z : Byte) (s : State) : StepResult :=
  .next (lda (.indirectY z) s)

/-- LDA $nn,X (0xB5; R150). -/
def execLdaZpX (z : Byte) (s : State) : StepResult :=
  .next (lda (.zeroPageX z) s)

/-- LDA $nnnn,Y (0xB9; R150). -/
def execLdaAbsY (a : Word) (s : State) : StepResult :=
  .next (lda (.absoluteY a) s)

/-- LDA $nnnn,X (0xBD; R150). -/
def execLdaAbsX (a : Word) (s : State) : StepResult :=
  .next (lda (.absoluteX a) s)

/-- LDX #$nn (0xA2; R151). -/
def execLdxImm (v : Byte) (s : State) : StepResult :=
  .next (ldx (.immediate v) s)

/-- LDX $nn (0xA6; R151). -/
def execLdxZp (z : Byte) (s : State) : StepResult :=
  .next (ldx (.zeroPage z) s)

/-- LDX $nnnn (0xAE; R151). -/
def execLdxAbs (a : Word) (s : State) : StepResult :=
  .next (ldx (.absolute a) s)

/-- LDX $nn,Y (0xB6; R151). -/
def execLdxZpY (z : Byte) (s : State) : StepResult :=
  .next (ldx (.zeroPageY z) s)

/-- LDX $nnnn,Y (0xBE; R151). -/
def execLdxAbsY (a : Word) (s : State) : StepResult :=
  .next (ldx (.absoluteY a) s)

/-- LDY #$nn (0xA0; R152). -/
def execLdyImm (v : Byte) (s : State) : StepResult :=
  .next (ldy (.immediate v) s)

/-- LDY $nn (0xA4; R152). -/
def execLdyZp (z : Byte) (s : State) : StepResult :=
  .next (ldy (.zeroPage z) s)

/-- LDY $nnnn (0xAC; R152). -/
def execLdyAbs (a : Word) (s : State) : StepResult :=
  .next (ldy (.absolute a) s)

/-- LDY $nn,X (0xB4; R152). -/
def execLdyZpX (z : Byte) (s : State) : StepResult :=
  .next (ldy (.zeroPageX z) s)

/-- LDY $nnnn,X (0xBC; R152). -/
def execLdyAbsX (a : Word) (s : State) : StepResult :=
  .next (ldy (.absoluteX a) s)

/-- STA ($nn,X) (0x81; R153). -/
def execStaIndX (z : Byte) (s : State) : StepResult :=
  .next (sta (.indirectX z) s)

/-- STA $nn (0x85; R153). -/
def execStaZp (z : Byte) (s : State) : StepResult :=
  .next (sta (.zeroPage z) s)

/-- STA $nnnn (0x8D; R153). -/
def execStaAbs (a : Word) (s : State) : StepResult :=
  .next (sta (.absolute a) s)

/-- STA ($nn),Y (0x91; R153). -/
def execStaIndY (z : Byte) (s : State) : StepResult :=
  .next (sta (.indirectY z) s)

/-- STA $nn,X (0x95; R153). -/
def execStaZpX (z : Byte) (s : State) : StepResult :=
  .next (sta (.zeroPageX z) s)

/-- STA $nnnn,Y (0x99; R153). -/
def execStaAbsY (a : Word) (s : State) : StepResult :=
  .next (sta (.absoluteY a) s)

/-- STA $nnnn,X (0x9D; R153). -/
def execStaAbsX (a : Word) (s : State) : StepResult :=
  .next (sta (.absoluteX a) s)

/-- STX $nn (0x86; R154). -/
def execStxZp (z : Byte) (s : State) : StepResult :=
  .next (stx (.zeroPage z) s)

/-- STX $nnnn (0x8E; R154). -/
def execStxAbs (a : Word) (s : State) : StepResult :=
  .next (stx (.absolute a) s)

/-- STX $nn,Y (0x96; R154). -/
def execStxZpY (z : Byte) (s : State) : StepResult :=
  .next (stx (.zeroPageY z) s)

/-- STY $nn (0x84; R155). -/
def execStyZp (z : Byte) (s : State) : StepResult :=
  .next (sty (.zeroPage z) s)

/-- STY $nnnn (0x8C; R155). -/
def execStyAbs (a : Word) (s : State) : StepResult :=
  .next (sty (.absolute a) s)

/-- STY $nn,X (0x94; R155). -/
def execStyZpX (z : Byte) (s : State) : StepResult :=
  .next (sty (.zeroPageX z) s)

/-- TAX (0xAA; R156). -/
def execTax (s : State) : StepResult :=
  .next (tax s)

/-- TAY (0xA8; R157). -/
def execTay (s : State) : StepResult :=
  .next (tay s)

/-- TXA (0x8A; R158). -/
def execTxa (s : State) : StepResult :=
  .next (txa s)

/-- TYA (0x98; R159). -/
def execTya (s : State) : StepResult :=
  .next (tya s)

/-- TSX (0xBA; R160). -/
def execTsx (s : State) : StepResult :=
  .next (tsx s)

/-- TXS (0x9A; R161). -/
def execTxs (s : State) : StepResult :=
  .next (txs s)

end Sys2Proof.Machine
end

