-- ==== Sys2Proof/Machine/Shift.lean ====
section
/-! DEFINITION. Shifts and rotates, of A or of one byte of memory (43 R190 to R193): the shared operation, then a
meaning per instruction. -/

namespace Sys2Proof.Machine

/-- A shift or rotate: one read, C from the bit shifted off, one write, then `updateZN` (43 R190 to R193). -/
def shiftOp (f : Byte → Bool → Shifted) (o : Operand) (s : State) : State :=
  let l := locate o s
  let m := readLoc l.1 l.2
  let r := f m.1 m.2.p.c
  (writeLoc l.1 r.result (m.2.setP { m.2.p with c := r.carry })).updateZN r.result

/-- ASL (43 R190). -/
def asl (o : Operand) (s : State) : State :=
  shiftOp shiftLeft o s

/-- LSR (43 R191). -/
def lsr (o : Operand) (s : State) : State :=
  shiftOp shiftRight o s

/-- ROL (43 R192). -/
def rol (o : Operand) (s : State) : State :=
  shiftOp rotateLeft o s

/-- ROR (43 R193). -/
def ror (o : Operand) (s : State) : State :=
  shiftOp rotateRight o s

/-- ASL $nn (0x06; R190). -/
def execAslZp (z : Byte) (s : State) : StepResult :=
  .next (asl (.zeroPage z) s)

/-- ASL A (0x0A; R190). -/
def execAslAcc (s : State) : StepResult :=
  .next (asl .accumulator s)

/-- ASL $nnnn (0x0E; R190). -/
def execAslAbs (a : Word) (s : State) : StepResult :=
  .next (asl (.absolute a) s)

/-- ASL $nn,X (0x16; R190). -/
def execAslZpX (z : Byte) (s : State) : StepResult :=
  .next (asl (.zeroPageX z) s)

/-- ASL $nnnn,X (0x1E; R190). -/
def execAslAbsX (a : Word) (s : State) : StepResult :=
  .next (asl (.absoluteX a) s)

/-- LSR $nn (0x46; R191). -/
def execLsrZp (z : Byte) (s : State) : StepResult :=
  .next (lsr (.zeroPage z) s)

/-- LSR A (0x4A; R191). -/
def execLsrAcc (s : State) : StepResult :=
  .next (lsr .accumulator s)

/-- LSR $nnnn (0x4E; R191). -/
def execLsrAbs (a : Word) (s : State) : StepResult :=
  .next (lsr (.absolute a) s)

/-- LSR $nn,X (0x56; R191). -/
def execLsrZpX (z : Byte) (s : State) : StepResult :=
  .next (lsr (.zeroPageX z) s)

/-- LSR $nnnn,X (0x5E; R191). -/
def execLsrAbsX (a : Word) (s : State) : StepResult :=
  .next (lsr (.absoluteX a) s)

/-- ROL $nn (0x26; R192). -/
def execRolZp (z : Byte) (s : State) : StepResult :=
  .next (rol (.zeroPage z) s)

/-- ROL A (0x2A; R192). -/
def execRolAcc (s : State) : StepResult :=
  .next (rol .accumulator s)

/-- ROL $nnnn (0x2E; R192). -/
def execRolAbs (a : Word) (s : State) : StepResult :=
  .next (rol (.absolute a) s)

/-- ROL $nn,X (0x36; R192). -/
def execRolZpX (z : Byte) (s : State) : StepResult :=
  .next (rol (.zeroPageX z) s)

/-- ROL $nnnn,X (0x3E; R192). -/
def execRolAbsX (a : Word) (s : State) : StepResult :=
  .next (rol (.absoluteX a) s)

/-- ROR $nn (0x66; R193). -/
def execRorZp (z : Byte) (s : State) : StepResult :=
  .next (ror (.zeroPage z) s)

/-- ROR A (0x6A; R193). -/
def execRorAcc (s : State) : StepResult :=
  .next (ror .accumulator s)

/-- ROR $nnnn (0x6E; R193). -/
def execRorAbs (a : Word) (s : State) : StepResult :=
  .next (ror (.absolute a) s)

/-- ROR $nn,X (0x76; R193). -/
def execRorZpX (z : Byte) (s : State) : StepResult :=
  .next (ror (.zeroPageX z) s)

/-- ROR $nnnn,X (0x7E; R193). -/
def execRorAbsX (a : Word) (s : State) : StepResult :=
  .next (ror (.absoluteX a) s)

end Sys2Proof.Machine
end

