-- ==== Sys2Proof/Machine/System.lean ====
section
/-! DEFINITION. Stack, flag, no-operation and system instructions (45 R210 to R223): the shared operations, then a
meaning per instruction. -/

namespace Sys2Proof.Machine

/-- PHA (45 R210). -/
def pha (s : State) : State :=
  push s.a s

/-- PHP: bits 4 and 5 of the pushed byte are 1 (45 R211). -/
def php (s : State) : State :=
  push (s.p.toByte true) s

/-- PLA (45 R212). -/
def pla (s : State) : State :=
  let r := pull s
  (r.2.setA r.1).updateZN r.1

/-- PLP (45 R213). -/
def plp (s : State) : State :=
  let r := pull s
  r.2.setP (Flags.fromByte r.1)

/-- CLC (45 R214). -/
def clc (s : State) : State :=
  s.setP { s.p with c := false }

/-- CLD (45 R215). -/
def cld (s : State) : State :=
  s.setP { s.p with d := false }

/-- CLI (45 R216). -/
def cli (s : State) : State :=
  s.setP { s.p with i := false }

/-- CLV (45 R217). -/
def clv (s : State) : State :=
  s.setP { s.p with v := false }

/-- SEC (45 R218). -/
def sec (s : State) : State :=
  s.setP { s.p with c := true }

/-- SED (45 R219). -/
def sed (s : State) : State :=
  s.setP { s.p with d := true }

/-- SEI (45 R220). -/
def sei (s : State) : State :=
  s.setP { s.p with i := true }

/-- NOP: nothing but the advance of PC, already made by the fetch (45 R221). -/
def nop (s : State) : State :=
  s

/-- BRK: the exception entry with the address of BRK + 2 and bit 4 = 1 (45 R222). PC is already BRK + 1. -/
def brk (s : State) : State :=
  takeException (s.pc + 1) true irqVector s

/-- RTI (45 R223). -/
def rti (s : State) : State :=
  returnFromException s

/-- PHA (0x48; R210). -/
def execPha (s : State) : StepResult :=
  .next (pha s)

/-- PHP (0x08; R211). -/
def execPhp (s : State) : StepResult :=
  .next (php s)

/-- PLA (0x68; R212). -/
def execPla (s : State) : StepResult :=
  .next (pla s)

/-- PLP (0x28; R213). -/
def execPlp (s : State) : StepResult :=
  .next (plp s)

/-- CLC (0x18; R214). -/
def execClc (s : State) : StepResult :=
  .next (clc s)

/-- CLD (0xD8; R215). -/
def execCld (s : State) : StepResult :=
  .next (cld s)

/-- CLI (0x58; R216). -/
def execCli (s : State) : StepResult :=
  .next (cli s)

/-- CLV (0xB8; R217). -/
def execClv (s : State) : StepResult :=
  .next (clv s)

/-- SEC (0x38; R218). -/
def execSec (s : State) : StepResult :=
  .next (sec s)

/-- SED (0xF8; R219). -/
def execSed (s : State) : StepResult :=
  .next (sed s)

/-- SEI (0x78; R220). -/
def execSei (s : State) : StepResult :=
  .next (sei s)

/-- NOP (0xEA; R221). -/
def execNop (s : State) : StepResult :=
  .next (nop s)

/-- BRK (0x00; R222). -/
def execBrk (s : State) : StepResult :=
  .next (brk s)

/-- RTI (0x40; R223). -/
def execRti (s : State) : StepResult :=
  .next (rti s)

end Sys2Proof.Machine
end

