-- ==== Sys2Proof/Machine/Dispatch.lean ====
section
/-! DEFINITION. The dispatch of an instruction to its meaning (40 R121): one arm per constructor of `Instr`. -/

namespace Sys2Proof.Machine

def exec (i : Instr) (s : State) : Host.Outcome State Fault Refusal :=
  match i with
  -- LDA (R150)
  | .ldaIndX z => Sys2Proof.Machine.execLdaIndX z s
  | .ldaZp z => Sys2Proof.Machine.execLdaZp z s
  | .ldaImm v => Sys2Proof.Machine.execLdaImm v s
  | .ldaAbs a => Sys2Proof.Machine.execLdaAbs a s
  | .ldaIndY z => Sys2Proof.Machine.execLdaIndY z s
  | .ldaZpX z => Sys2Proof.Machine.execLdaZpX z s
  | .ldaAbsY a => Sys2Proof.Machine.execLdaAbsY a s
  | .ldaAbsX a => Sys2Proof.Machine.execLdaAbsX a s
  -- LDX (R151)
  | .ldxImm v => Sys2Proof.Machine.execLdxImm v s
  | .ldxZp z => Sys2Proof.Machine.execLdxZp z s
  | .ldxAbs a => Sys2Proof.Machine.execLdxAbs a s
  | .ldxZpY z => Sys2Proof.Machine.execLdxZpY z s
  | .ldxAbsY a => Sys2Proof.Machine.execLdxAbsY a s
  -- LDY (R152)
  | .ldyImm v => Sys2Proof.Machine.execLdyImm v s
  | .ldyZp z => Sys2Proof.Machine.execLdyZp z s
  | .ldyAbs a => Sys2Proof.Machine.execLdyAbs a s
  | .ldyZpX z => Sys2Proof.Machine.execLdyZpX z s
  | .ldyAbsX a => Sys2Proof.Machine.execLdyAbsX a s
  -- STA (R153)
  | .staIndX z => Sys2Proof.Machine.execStaIndX z s
  | .staZp z => Sys2Proof.Machine.execStaZp z s
  | .staAbs a => Sys2Proof.Machine.execStaAbs a s
  | .staIndY z => Sys2Proof.Machine.execStaIndY z s
  | .staZpX z => Sys2Proof.Machine.execStaZpX z s
  | .staAbsY a => Sys2Proof.Machine.execStaAbsY a s
  | .staAbsX a => Sys2Proof.Machine.execStaAbsX a s
  -- STX (R154)
  | .stxZp z => Sys2Proof.Machine.execStxZp z s
  | .stxAbs a => Sys2Proof.Machine.execStxAbs a s
  | .stxZpY z => Sys2Proof.Machine.execStxZpY z s
  -- STY (R155)
  | .styZp z => Sys2Proof.Machine.execStyZp z s
  | .styAbs a => Sys2Proof.Machine.execStyAbs a s
  | .styZpX z => Sys2Proof.Machine.execStyZpX z s
  -- TAX (R156)
  | .tax => Sys2Proof.Machine.execTax s
  -- TAY (R157)
  | .tay => Sys2Proof.Machine.execTay s
  -- TXA (R158)
  | .txa => Sys2Proof.Machine.execTxa s
  -- TYA (R159)
  | .tya => Sys2Proof.Machine.execTya s
  -- TSX (R160)
  | .tsx => Sys2Proof.Machine.execTsx s
  -- TXS (R161)
  | .txs => Sys2Proof.Machine.execTxs s
  -- ADC (R170)
  | .adcIndX z => Sys2Proof.Machine.execAdcIndX z s
  | .adcZp z => Sys2Proof.Machine.execAdcZp z s
  | .adcImm v => Sys2Proof.Machine.execAdcImm v s
  | .adcAbs a => Sys2Proof.Machine.execAdcAbs a s
  | .adcIndY z => Sys2Proof.Machine.execAdcIndY z s
  | .adcZpX z => Sys2Proof.Machine.execAdcZpX z s
  | .adcAbsY a => Sys2Proof.Machine.execAdcAbsY a s
  | .adcAbsX a => Sys2Proof.Machine.execAdcAbsX a s
  -- SBC (R171)
  | .sbcIndX z => Sys2Proof.Machine.execSbcIndX z s
  | .sbcZp z => Sys2Proof.Machine.execSbcZp z s
  | .sbcImm v => Sys2Proof.Machine.execSbcImm v s
  | .sbcAbs a => Sys2Proof.Machine.execSbcAbs a s
  | .sbcIndY z => Sys2Proof.Machine.execSbcIndY z s
  | .sbcZpX z => Sys2Proof.Machine.execSbcZpX z s
  | .sbcAbsY a => Sys2Proof.Machine.execSbcAbsY a s
  | .sbcAbsX a => Sys2Proof.Machine.execSbcAbsX a s
  -- AND (R172)
  | .andIndX z => Sys2Proof.Machine.execAndIndX z s
  | .andZp z => Sys2Proof.Machine.execAndZp z s
  | .andImm v => Sys2Proof.Machine.execAndImm v s
  | .andAbs a => Sys2Proof.Machine.execAndAbs a s
  | .andIndY z => Sys2Proof.Machine.execAndIndY z s
  | .andZpX z => Sys2Proof.Machine.execAndZpX z s
  | .andAbsY a => Sys2Proof.Machine.execAndAbsY a s
  | .andAbsX a => Sys2Proof.Machine.execAndAbsX a s
  -- ORA (R173)
  | .oraIndX z => Sys2Proof.Machine.execOraIndX z s
  | .oraZp z => Sys2Proof.Machine.execOraZp z s
  | .oraImm v => Sys2Proof.Machine.execOraImm v s
  | .oraAbs a => Sys2Proof.Machine.execOraAbs a s
  | .oraIndY z => Sys2Proof.Machine.execOraIndY z s
  | .oraZpX z => Sys2Proof.Machine.execOraZpX z s
  | .oraAbsY a => Sys2Proof.Machine.execOraAbsY a s
  | .oraAbsX a => Sys2Proof.Machine.execOraAbsX a s
  -- EOR (R174)
  | .eorIndX z => Sys2Proof.Machine.execEorIndX z s
  | .eorZp z => Sys2Proof.Machine.execEorZp z s
  | .eorImm v => Sys2Proof.Machine.execEorImm v s
  | .eorAbs a => Sys2Proof.Machine.execEorAbs a s
  | .eorIndY z => Sys2Proof.Machine.execEorIndY z s
  | .eorZpX z => Sys2Proof.Machine.execEorZpX z s
  | .eorAbsY a => Sys2Proof.Machine.execEorAbsY a s
  | .eorAbsX a => Sys2Proof.Machine.execEorAbsX a s
  -- BIT (R175)
  | .bitZp z => Sys2Proof.Machine.execBitZp z s
  | .bitAbs a => Sys2Proof.Machine.execBitAbs a s
  -- CMP (R176)
  | .cmpIndX z => Sys2Proof.Machine.execCmpIndX z s
  | .cmpZp z => Sys2Proof.Machine.execCmpZp z s
  | .cmpImm v => Sys2Proof.Machine.execCmpImm v s
  | .cmpAbs a => Sys2Proof.Machine.execCmpAbs a s
  | .cmpIndY z => Sys2Proof.Machine.execCmpIndY z s
  | .cmpZpX z => Sys2Proof.Machine.execCmpZpX z s
  | .cmpAbsY a => Sys2Proof.Machine.execCmpAbsY a s
  | .cmpAbsX a => Sys2Proof.Machine.execCmpAbsX a s
  -- CPX (R177)
  | .cpxImm v => Sys2Proof.Machine.execCpxImm v s
  | .cpxZp z => Sys2Proof.Machine.execCpxZp z s
  | .cpxAbs a => Sys2Proof.Machine.execCpxAbs a s
  -- CPY (R178)
  | .cpyImm v => Sys2Proof.Machine.execCpyImm v s
  | .cpyZp z => Sys2Proof.Machine.execCpyZp z s
  | .cpyAbs a => Sys2Proof.Machine.execCpyAbs a s
  -- INC (R179)
  | .incZp z => Sys2Proof.Machine.execIncZp z s
  | .incAbs a => Sys2Proof.Machine.execIncAbs a s
  | .incZpX z => Sys2Proof.Machine.execIncZpX z s
  | .incAbsX a => Sys2Proof.Machine.execIncAbsX a s
  -- DEC (R180)
  | .decZp z => Sys2Proof.Machine.execDecZp z s
  | .decAbs a => Sys2Proof.Machine.execDecAbs a s
  | .decZpX z => Sys2Proof.Machine.execDecZpX z s
  | .decAbsX a => Sys2Proof.Machine.execDecAbsX a s
  -- INX (R181)
  | .inx => Sys2Proof.Machine.execInx s
  -- INY (R182)
  | .iny => Sys2Proof.Machine.execIny s
  -- DEX (R183)
  | .dex => Sys2Proof.Machine.execDex s
  -- DEY (R184)
  | .dey => Sys2Proof.Machine.execDey s
  -- ASL (R190)
  | .aslZp z => Sys2Proof.Machine.execAslZp z s
  | .aslAcc => Sys2Proof.Machine.execAslAcc s
  | .aslAbs a => Sys2Proof.Machine.execAslAbs a s
  | .aslZpX z => Sys2Proof.Machine.execAslZpX z s
  | .aslAbsX a => Sys2Proof.Machine.execAslAbsX a s
  -- LSR (R191)
  | .lsrZp z => Sys2Proof.Machine.execLsrZp z s
  | .lsrAcc => Sys2Proof.Machine.execLsrAcc s
  | .lsrAbs a => Sys2Proof.Machine.execLsrAbs a s
  | .lsrZpX z => Sys2Proof.Machine.execLsrZpX z s
  | .lsrAbsX a => Sys2Proof.Machine.execLsrAbsX a s
  -- ROL (R192)
  | .rolZp z => Sys2Proof.Machine.execRolZp z s
  | .rolAcc => Sys2Proof.Machine.execRolAcc s
  | .rolAbs a => Sys2Proof.Machine.execRolAbs a s
  | .rolZpX z => Sys2Proof.Machine.execRolZpX z s
  | .rolAbsX a => Sys2Proof.Machine.execRolAbsX a s
  -- ROR (R193)
  | .rorZp z => Sys2Proof.Machine.execRorZp z s
  | .rorAcc => Sys2Proof.Machine.execRorAcc s
  | .rorAbs a => Sys2Proof.Machine.execRorAbs a s
  | .rorZpX z => Sys2Proof.Machine.execRorZpX z s
  | .rorAbsX a => Sys2Proof.Machine.execRorAbsX a s
  -- BPL (R196)
  | .bpl off => Sys2Proof.Machine.execBpl off s
  -- BMI (R197)
  | .bmi off => Sys2Proof.Machine.execBmi off s
  -- BVC (R198)
  | .bvc off => Sys2Proof.Machine.execBvc off s
  -- BVS (R199)
  | .bvs off => Sys2Proof.Machine.execBvs off s
  -- BCC (R200)
  | .bcc off => Sys2Proof.Machine.execBcc off s
  -- BCS (R201)
  | .bcs off => Sys2Proof.Machine.execBcs off s
  -- BNE (R202)
  | .bne off => Sys2Proof.Machine.execBne off s
  -- BEQ (R203)
  | .beq off => Sys2Proof.Machine.execBeq off s
  -- JMP (R204)
  | .jmpAbs a => Sys2Proof.Machine.execJmpAbs a s
  | .jmpInd a => Sys2Proof.Machine.execJmpInd a s
  -- JSR (R205)
  | .jsr a => Sys2Proof.Machine.execJsr a s
  -- RTS (R206)
  | .rts => Sys2Proof.Machine.execRts s
  -- PHA (R210)
  | .pha => Sys2Proof.Machine.execPha s
  -- PHP (R211)
  | .php => Sys2Proof.Machine.execPhp s
  -- PLA (R212)
  | .pla => Sys2Proof.Machine.execPla s
  -- PLP (R213)
  | .plp => Sys2Proof.Machine.execPlp s
  -- CLC (R214)
  | .clc => Sys2Proof.Machine.execClc s
  -- CLD (R215)
  | .cld => Sys2Proof.Machine.execCld s
  -- CLI (R216)
  | .cli => Sys2Proof.Machine.execCli s
  -- CLV (R217)
  | .clv => Sys2Proof.Machine.execClv s
  -- SEC (R218)
  | .sec => Sys2Proof.Machine.execSec s
  -- SED (R219)
  | .sed => Sys2Proof.Machine.execSed s
  -- SEI (R220)
  | .sei => Sys2Proof.Machine.execSei s
  -- NOP (R221)
  | .nop => Sys2Proof.Machine.execNop s
  -- BRK (R222)
  | .brk => Sys2Proof.Machine.execBrk s
  -- RTI (R223)
  | .rti => Sys2Proof.Machine.execRti s

end Sys2Proof.Machine
end

