-- ==== Sys2Proof/Machine/Render.lean ====
section
/-! DEFINITION. The PPU's rendering: the scroll increments (60 R260, R261), the background pixel (60 R266), sprite
evaluation (60 R267), the sprite pixel (60 R268), the pixel's resolution (60 R269) and its output (60 R270). -/

namespace Sys2Proof.Machine

/-- `incrementHorizontal` (60 R260). -/
def incrementHorizontal (v : BitVec 15) : BitVec 15 :=
  if v &&& 0x001F = 0x001F then (v &&& 0x7FE0) ^^^ 0x0400 else v + 1

/-- Coarse Y, `v[9:5]` (60 R259). -/
def coarseY (v : BitVec 15) : BitVec 15 :=
  (v >>> 5) &&& 0x1F

/-- `v` with coarse Y replaced (60 R261). -/
def withCoarseY (v y : BitVec 15) : BitVec 15 :=
  (v &&& 0x7C1F) ||| (y <<< 5)

/-- `incrementVertical` (60 R261). -/
def incrementVertical (v : BitVec 15) : BitVec 15 :=
  if (v >>> 12).toNat < 7 then v + 0x1000
  else
    let v := v &&& 0x0FFF
    let y := coarseY v
    if y = 29 then withCoarseY (v ^^^ 0x0800) 0
    else if y = 31 then withCoarseY v 0
    else withCoarseY v (y + 1)

/-- A layer's pixel: the colour index 0..3, 0 being transparent, and the palette 0..3. -/
structure LayerPixel where
  pix : BitVec 2
  pal : BitVec 2
  deriving DecidableEq, Repr

/-- The two-bit colour index that bit `bit` of two pattern planes gives (60 R266, R268). -/
def planesPixel (lo hi : Byte) (bit : Nat) : BitVec 2 :=
  (if lo.getLsbD bit then 1 else 0) ||| (if hi.getLsbD bit then 2 else 0)

/-- The two-bit colour index of column bit `bit` of the pattern row at an address; the planes are 8 bytes apart
(60 R266, R268). -/
def patternPixel (addr : Word) (bit : Nat) (s : State) : BitVec 2 :=
  planesPixel (ppuRead addr s) (ppuRead (addr + 8) s) bit

/-- `BgPixel(px)` (60 R266). -/
def bgPixel (px : Nat) (s : State) : LayerPixel :=
  let u := s.ppu
  if u.mask.getLsbD 3 = false ∨ (px < 8 ∧ u.mask.getLsbD 1 = false) then ⟨0, 0⟩
  else
    let p := px % 8 + u.fineX.toNat
    let tv15 := if 8 ≤ p then incrementHorizontal u.v else u.v
    let tv : Word := tv15.setWidth 16
    let bit := 7 - p % 8
    let tile := ppuRead (0x2000 ||| (tv &&& 0x0FFF)) s
    let fy := tv >>> 12
    let base : Word := if u.ctrl.getLsbD 4 then 0x1000 else 0x0000
    let pix := patternPixel (base + zext16 tile * 16 + fy) bit s
    let attr := ppuRead (0x23C0 ||| (tv &&& 0x0C00) ||| ((tv >>> 4) &&& 0x38) ||| ((tv >>> 2) &&& 0x07)) s
    let shift := (((tv >>> 4) &&& 0x04) ||| (tv &&& 0x02)).toNat
    ⟨pix, (attr >>> shift).setWidth 2⟩

/-- `SPRITE_Y_OFFSET` (00 R4). -/
def spriteYOffset : Int := 1

/-- The sprite height of the current size (60 R245). -/
def Ppu.spriteHeight (u : Ppu) : Nat :=
  if u.ctrl.getLsbD 5 then 16 else 8

/-- A sprite's row on scanline `line`, `L - (Y + SPRITE_Y_OFFSET)` (60 R267, R268). -/
def spriteRow (line : Int) (y : Byte) : Int :=
  line - ((y.toNat : Int) + spriteYOffset)

/-- Whether a sprite with this Y byte is in range on a scanline (60 R267). -/
def spriteInRange (line : Int) (height : Nat) (y : Byte) : Bool :=
  decide (0 ≤ spriteRow line y) && decide (spriteRow line y < height)

/-- The OAM entry of a sprite (60 R267). -/
def Ppu.spriteEntry (u : Ppu) (i : Nat) : SpriteEntry where
  index := i
  y := u.oam.read (4 * i)
  tile := u.oam.read (4 * i + 1)
  attr := u.oam.read (4 * i + 2)
  x := u.oam.read (4 * i + 3)

/-- The OAM indices of the sprites in range on a scanline, in order (60 R267). -/
def Ppu.spritesInRange (line : Int) (u : Ppu) : List Nat :=
  (List.range 64).filter (fun i => spriteInRange line u.spriteHeight (u.oam.read (4 * i)))

/-- `EvaluateSprites(L)`: the first eight sprites in range; the overflow flag is set when there is a ninth
(60 R267). -/
def Ppu.evaluateSprites (line : Int) (u : Ppu) : Ppu :=
  let found := u.spritesInRange line
  { u with
    secondary := (found.take 8).map u.spriteEntry
    spriteOverflow := u.spriteOverflow || decide (8 < found.length) }

/-- A sprite's opaque pixel (60 R268). -/
structure SpritePixel where
  pix : BitVec 2
  pal : BitVec 2
  behind : Bool
  index : Nat
  deriving DecidableEq, Repr

/-- The pattern address of a sprite's row (60 R268). -/
def spritePatternAddr (ctrl tile : Byte) (height row : Nat) : Word :=
  if height = 8 then
    (if ctrl.getLsbD 3 then 0x1000 else 0) + zext16 tile * 16 + BitVec.ofNat 16 row
  else
    zext16 (tile &&& 1) * 0x1000 +
      (zext16 (tile &&& 0xFE) + (if 8 ≤ row then 1 else 0)) * 16 + BitVec.ofNat 16 (row % 8)

/-- The pixel one entry of secondary OAM gives at a column of a scanline, if it is opaque (60 R268). -/
def entryPixel (px : Nat) (line : Int) (s : State) (e : SpriteEntry) : Option SpritePixel :=
  let h := s.ppu.spriteHeight
  if e.x.toNat ≤ px ∧ px < e.x.toNat + 8 ∧ spriteInRange line h e.y = true then
    let col := if e.attr.getLsbD 6 then 7 - (px - e.x.toNat) else px - e.x.toNat
    let row0 := (spriteRow line e.y).toNat
    let row := if e.attr.getLsbD 7 then h - 1 - row0 else row0
    let pix := patternPixel (spritePatternAddr s.ppu.ctrl e.tile h row) (7 - col) s
    if pix = 0 then none else some ⟨pix, e.attr.setWidth 2, e.attr.getLsbD 5, e.index⟩
  else none

/-- `SpritePixel(px, L)`: the first opaque entry of secondary OAM (60 R268). -/
def spritePixel (px : Nat) (line : Int) (s : State) : Option SpritePixel :=
  if s.ppu.mask.getLsbD 4 = false ∨ (px < 8 ∧ s.ppu.mask.getLsbD 2 = false) then none
  else s.ppu.secondary.findSome? (entryPixel px line s)

/-- The palette address of a background pixel, `0x3F00 + pal * 4 + pix` (60 R269). -/
def bgAddr (b : LayerPixel) : Word :=
  0x3F00 + b.pal.setWidth 16 * 4 + b.pix.setWidth 16

/-- The palette address of a sprite pixel, `0x3F10 + pal * 4 + pix` (60 R269). -/
def spriteAddr (p : SpritePixel) : Word :=
  0x3F10 + p.pal.setWidth 16 * 4 + p.pix.setWidth 16

/-- The palette address of the pixel that is shown (60 R269). -/
def pixelAddr (b : LayerPixel) (sp : Option SpritePixel) : Word :=
  match sp with
  | none => if b.pix = 0 then 0x3F00 else bgAddr b
  | some p => if b.pix = 0 ∨ p.behind = false then spriteAddr p else bgAddr b

/-- Whether a pixel makes a sprite-0 hit (60 R269). -/
def isSprite0Hit (px : Nat) (mask : Byte) (b : LayerPixel) (sp : Option SpritePixel) : Bool :=
  match sp with
  | none => false
  | some p => p.index == 0 && b.pix != 0 && mask.getLsbD 3 && mask.getLsbD 4 && decide (px < 255)

/-- A pixel written to the frame buffer, keys kept rising (60 R270). -/
def FrameBuffer.set : FrameBuffer → Nat → BitVec 32 → FrameBuffer
  | [], k, c => [(k, c)]
  | (j, d) :: f, k, c =>
    if k < j then (k, c) :: (j, d) :: f
    else if k = j then (k, c) :: f
    else (j, d) :: FrameBuffer.set f k c

/-- The frame buffer's key of a pixel. -/
def frameKey (px line : Nat) : Nat :=
  256 * line + px

/-- The packed RGB of a palette byte under a mask: greyscale, then `MASTER_PALETTE` with the emphasis bits (60 R270). -/
def outputColour (mask c : Byte) : BitVec 32 :=
  let c' := if mask.getLsbD 0 then c &&& 0x30 else c
  Config.masterPalette (c'.setWidth 6) ((mask >>> 5).setWidth 3)

/-- `RenderPixel(px, L)` (60 R269). -/
def renderPixel (px : Nat) (line : Nat) (s : State) : State :=
  let b := bgPixel px s
  let sp := spritePixel px line s
  let colour := ppuRead (pixelAddr b sp) s
  s.setPpu { s.ppu with
    sprite0Hit := s.ppu.sprite0Hit || isSprite0Hit px s.ppu.mask b sp
    frame := s.ppu.frame.set (frameKey px line) (outputColour s.ppu.mask colour) }

end Sys2Proof.Machine
end

