-- ==== Sys2Proof/Machine/PpuStep.lean ====
section
/-! DEFINITION. The PPU's scanline and cycle state machine (60 R263 to R265). -/

namespace Sys2Proof.Machine

/-- "Rendering enabled": `mask[3] OR mask[4]` (60 R265). -/
def Ppu.rendering (u : Ppu) : Bool :=
  u.mask.getLsbD 3 || u.mask.getLsbD 4

/-- The scanline is visible, 0..239 (60 R263). -/
def Ppu.visible (u : Ppu) : Bool :=
  decide (0 ≤ u.scanline) && decide (u.scanline ≤ 239)

/-- The horizontal copy `v <- (v & 0x7BE0) | (t & 0x041F)` (60 R264). -/
def Ppu.copyHorizontal (u : Ppu) : Ppu :=
  { u with v := (u.v &&& 0x7BE0) ||| (u.t &&& 0x041F) }

/-- The vertical copy `v <- (v & 0x041F) | (t & 0x7BE0)` (60 R264). -/
def Ppu.copyVertical (u : Ppu) : Ppu :=
  { u with v := (u.v &&& 0x041F) ||| (u.t &&& 0x7BE0) }

/-- Event 1: the pixel (60 R264). -/
def pixelEvent (s : State) : State :=
  let u := s.ppu
  if u.visible && u.rendering && decide (1 ≤ u.cycle) && decide (u.cycle ≤ 256) then
    renderPixel (u.cycle - 1) u.scanline.toNat s
  else s

/-- Event 2: coarse X (60 R264). -/
def coarseXEvent (u : Ppu) : Ppu :=
  if u.visible && u.rendering && decide (1 ≤ u.cycle) && decide (u.cycle ≤ 256) && decide ((u.cycle - 1) % 8 = 7) then
    { u with v := incrementHorizontal u.v }
  else u

/-- Event 3: Y (60 R264). -/
def yEvent (u : Ppu) : Ppu :=
  if u.visible && u.rendering && decide (u.cycle = 256) then { u with v := incrementVertical u.v } else u

/-- Event 4: sprite evaluation (60 R264). -/
def spriteEvent (u : Ppu) : Ppu :=
  if u.visible && u.rendering && decide (u.cycle = 65) then u.evaluateSprites u.scanline else u

/-- Event 5: the horizontal copy (60 R264). -/
def horizontalEvent (u : Ppu) : Ppu :=
  if decide (-1 ≤ u.scanline) && decide (u.scanline ≤ 239) && u.rendering && decide (u.cycle = 257) then
    u.copyHorizontal
  else u

/-- Event 6: the vertical copy (60 R264). -/
def verticalEvent (u : Ppu) : Ppu :=
  if decide (u.scanline = -1) && u.rendering && decide (280 ≤ u.cycle) && decide (u.cycle ≤ 304) then
    u.copyVertical
  else u

/-- Event 7: the start of vblank (60 R264). -/
def vblankStartEvent (s : State) : State :=
  if decide (s.ppu.scanline = 241) && decide (s.ppu.cycle = 1) then
    updateNmiOut (s.setPpu { s.ppu with vblank := true })
  else s

/-- Event 8: the end of vblank (60 R264). -/
def vblankEndEvent (s : State) : State :=
  if decide (s.ppu.scanline = -1) && decide (s.ppu.cycle = 1) then
    updateNmiOut (s.setPpu { s.ppu with vblank := false, sprite0Hit := false, spriteOverflow := false })
  else s

/-- Events 2 to 6, which act on the PPU alone (60 R264). -/
def Ppu.scrollEvents (u : Ppu) : Ppu :=
  verticalEvent (horizontalEvent (spriteEvent (yEvent (coarseXEvent u))))

/-- The events of one PPU cycle, in order (60 R264). -/
def ppuEvents (s : State) : State :=
  let s := pixelEvent s
  let s := s.setPpu s.ppu.scrollEvents
  vblankEndEvent (vblankStartEvent s)

/-- The advance of `(scanline, cycle)` (60 R263). -/
def Ppu.advance (u : Ppu) : Ppu :=
  if 340 < u.cycle + 1 then
    { u with cycle := 0, scanline := if 260 < u.scanline + 1 then -1 else u.scanline + 1 }
  else { u with cycle := u.cycle + 1 }

/-- `PPU.step()`: one PPU cycle (60 R263). -/
def ppuStep (s : State) : State :=
  let s := ppuEvents s
  s.setPpu s.ppu.openBusTick.advance

/-- PPU cycles, one after another. -/
def ppuSteps : Nat → State → State
  | 0, s => s
  | n + 1, s => ppuSteps n (ppuStep s)

end Sys2Proof.Machine
end

