-- ==== Sys2Proof/Machine/Cpu.lean ====
section
/-! DEFINITION. The CPU step and its cycle count (40 R120 to R123), the catch-up of the PPU (60 R290), the placement of
an instruction where the next step fetches it, and the host's driver frame (60 R291). -/

namespace Sys2Proof.Machine

/-- `Cycles(ins)`, from the instruction's table entry and the state after it (40 R122). -/
def cycles (row : TableRow) (s : State) : Nat :=
  let extra :=
    if row.mode = .relative then
      if s.branchTaken then 1 + (if s.pageCrossed then 1 else 0) else 0
    else if row.mayPageCross && s.pageCrossed then 1 else 0
  row.baseCycles + extra + s.dmaStall

/-- What a CPU step answers: its cycle count and the state after it. -/
abbrev CpuResult := Host.Outcome (Nat × State) Fault Refusal

/-- The state with the per-instruction values reset (40 R120). -/
def State.beginInstruction (s : State) : State :=
  ((s.setPageCrossed false).setBranchTaken false).setDmaStall 0

/-- `Execute(ins)` and its count: the operand bytes are fetched, then the meaning runs (40 R121). -/
def execute (row : TableRow) (s : State) : CpuResult :=
  let f := fetchOperands row.mode.operandLength s
  match exec (row.make f.1.1 f.1.2) f.2 with
  | .next t => .next (cycles row t, t)
  | .fault r => .fault r
  | .refused r => .refused r

/-- The fetch and the execution of the instruction at PC. An `INVALID` byte records the fault and counts no cycle
(40 R120, 60 R231; log 8). -/
def runInstruction (s : State) : CpuResult :=
  let f := fetchByte s
  match table f.1 with
  | none => .next (0, f.2.setFault (some (.unimplementedOpcode f.1 s.pc)))
  | some row => execute row f.2.beginInstruction

/-- `CPU.step()` of a CPU with no fault recorded, for a sampled level of `IRQ_LINE`: an NMI entry, an IRQ entry or an
instruction (40 R120, 60 R238). -/
def cpuStep (irq : Bool) (s : State) : CpuResult :=
  if s.nmiPending then .next (7, nmiEntry s)
  else if !s.p.i && irq then .next (7, irqEntry s)
  else runInstruction s

/-- The count added to `total_cycles`, and the PPU's 3 cycles for each CPU cycle (40 R123, 60 R290). -/
def catchUp (c : Nat) (s : State) : State :=
  ppuSteps (3 * c) (s.setTotalCycles (s.totalCycles + c))

/-- `SystemStep()` (60 R290). A recorded fault ends the run: there is no step (60 R231; log 8). -/
def systemStep (s : State) : StepResult :=
  match s.fault with
  | some r => .fault r
  | none =>
    match cpuStep s.irqLevel s.nextInput with
    | .next r => .next (catchUp r.1 r.2)
    | .fault r => .fault r
    | .refused r => .refused r

/-- Whether memory answers a fetch at an address. -/
def State.holdsCode (s : State) (addr : Word) : Bool :=
  (s.peek addr).isSome

/-- Places a byte in the memory that answers at an address, ROM included: the host's load, not a bus write. -/
def State.poke (addr : Word) (v : Byte) (s : State) : State :=
  match s.device addr with
  | .ram o => s.setRam (s.ram.write o v)
  | .prgRam o => s.setCart { s.cart with prgRam := s.cart.prgRam.write o v }
  | .cartridge => s.setCart { s.cart with prg := s.cart.prg.write (s.cart.prgOffset addr.toNat) v }
  | .ppu _ | .oamDma | .pad1 | .pad2 | .apu | .unmapped => s

/-- The state with PC at an address whose next three bytes memory answers: PC as it is where it can stay, else 0
(log 16). -/
def State.atCode (s : State) : State :=
  if s.holdsCode s.pc && s.holdsCode (s.pc + 1) && s.holdsCode (s.pc + 2) then s else s.setPc 0

/-- The state in which the next step fetches an instruction: no fault, no NMI pending, and an IRQ that could be taken
not asserted for that step (log 16). -/
def State.readyToFetch (s : State) : State :=
  let s := (s.setFault none).setNmiPending false
  if s.p.i then s else s.setIrqIn (false :: s.irqIn.tail)

/-- Three bytes placed where the next step fetches. -/
def State.placeInstruction (b0 b1 b2 : Byte) (s : State) : State :=
  let s := s.readyToFetch.atCode
  ((s.poke s.pc b0).poke (s.pc + 1) b1).poke (s.pc + 2) b2

/-- The CPU cycles of a driver frame (60 R291). -/
def frameCycles : Nat := 29780

/-- The loop of `RunFrame`, at most `fuel` system steps (60 R291; log 17). -/
def runUntil (target : Nat) : Nat → State → StepResult
  | 0, s => .next s
  | fuel + 1, s =>
    if s.totalCycles < target && s.fault.isNone then
      match systemStep s with
      | .next t => runUntil target fuel t
      | .fault r => .fault r
      | .refused r => .refused r
    else .next s

/-- `RunFrame(buttons1)` (60 R291). Every step but one that faults counts at least 2 cycles, so the loop never runs
out of fuel (log 17). -/
def runFrame (buttons1 : Byte) (s : State) : StepResult :=
  runUntil (s.totalCycles + frameCycles) frameCycles (s.setPads (s.pads.setButtons buttons1))

end Sys2Proof.Machine
end

