-- ==== Sys2Proof/Machine/Step.lean ====
section
/-! DEFINITION. The machine's step is the system step (60 R290); and where the host places an instruction for it. -/

namespace Sys2Proof.Machine

/-- One step: `SystemStep()` (60 R290). -/
def step (s : State) : Host.Outcome State Fault Refusal :=
  systemStep s

/-- The state with the instruction whose bits are `w` (those from `nbits` on being 0) stored where `step` fetches its
next instruction: byte 0 in bits 7..0, byte 1 in bits 15..8, byte 2 in bits 23..16 (log 16). -/
def State.withFetchWord (s : State) (nbits w : Nat) : State :=
  let n := w % 2 ^ nbits
  s.placeInstruction (BitVec.ofNat 8 n) (BitVec.ofNat 8 (n / 256)) (BitVec.ofNat 8 (n / 65536))

end Sys2Proof.Machine
end

