-- ==== Sys2Proof/Safety.lean ====
section
/-! DEFINITION. What a good state is: the invariant that every step keeps (the widths, ranges and relations that the
spec gives the state), and the two ways a run is said to have ended (70 R311). -/

namespace Sys2Proof.Machine

/-- The cartridge meets its sizes (20 R70) and the MMC1 ranges (20 R77). -/
structure Cartridge.Inv (c : Cartridge) : Prop where
  prgBanks : 1 ≤ c.prgBanks
  prg : c.prg.wf c.prgSize = true
  chr : c.chr.wf c.chrSize = true
  prgRam : c.prgRam.wf (if c.hasPrgRam then 0x2000 else 0) = true
  shiftCount : c.mmc1.shiftCount ≤ 4

/-- Each decay timer stops at its threshold (60 R262). -/
def Ppu.timersInRange (u : Ppu) : Bool :=
  u.obTimers.length == 8 && (List.zip u.obTimers obThresholds).all (fun e => decide (e.1 ≤ e.2))

/-- A bit of the open-bus latch whose timer has reached its threshold reads 0 (60 R262). -/
def Ppu.decayed (u : Ppu) : Bool :=
  (List.range 8).all (fun i =>
    decide (u.obTimers.getD i 0 < obThresholds.getD i 0) || !u.ob.getLsbD i)

/-- Every listed key of a frame buffer is from `lo` on and below the number of pixels, and keys rise. -/
def FrameBuffer.wfFrom (lo : Nat) : FrameBuffer → Bool
  | [] => true
  | (k, _) :: f => decide (lo ≤ k) && decide (k < 256 * 240) && FrameBuffer.wfFrom (k + 1) f

/-- The PPU meets the widths and ranges of 60 R244, the mask of 60 R253, and the relations of 60 R234 and R272. -/
structure Ppu.Inv (u : Ppu) : Prop where
  oam : u.oam.wf 256 = true
  vram : u.vram.wf 2048 = true
  palette : u.palette.wf 32 = true
  colours : ∀ p < 32, u.palette.read p < 64
  timers : u.timersInRange = true
  decayed : u.decayed = true
  scanlineLow : -1 ≤ u.scanline
  scanlineHigh : u.scanline ≤ 260
  cycle : u.cycle ≤ 340
  secondaryLength : u.secondary.length ≤ 8
  secondaryIndex : ∀ e ∈ u.secondary, e.index < 64
  dmaActive : u.dmaActive = false
  nmiOut : u.nmiOut = (u.vblank && u.ctrl.getLsbD 7)
  frame : u.frame.wfFrom 0 = true

/-- Port 2's buttons are released (60 R273), and the shift registers follow the buttons while the strobe is 1
(60 R274). -/
structure Pads.Inv (d : Pads) : Prop where
  buttons2 : d.buttons2 = 0
  latch1 : d.strobe = true → d.shift1 = d.buttons1
  latch2 : d.strobe = true → d.shift2 = d.buttons2

/-- The invariant of the machine. -/
structure State.Inv (s : State) : Prop where
  ram : s.ram.wf 0x800 = true
  cart : s.cart.Inv
  ppu : s.ppu.Inv
  pads : s.pads.Inv

/-- The position of the PPU in its frame, as a number 0..89,341 of PPU cycles since (-1, 0) (60 R263). -/
def Ppu.position (u : Ppu) : Nat :=
  (u.scanline + 1).toNat * 341 + u.cycle

/-- The PPU cycles of a frame (60 R263). -/
def framePpuCycles : Nat := 341 * 262

/-- The run has failed: a fault is recorded (70 R311, way 1). -/
def State.failed (s : State) : Prop :=
  s.fault ≠ none

/-- The run has ended in an idle loop: the step about to run is a JMP to its own address, with no NMI pending or
enabled and no IRQ that could be taken (70 R311, way 3). The rule does not say for which steps IRQ_LINE is deasserted;
here it is the step about to run, and with I clear a later level may end the loop. DESIGN CHOICE (log 22), unsafe. -/
structure State.IdleLoop (s : State) : Prop where
  fault : s.fault = none
  opcode : s.peek s.pc = some 0x4C
  low : s.peek (s.pc + 1) = some (loByte s.pc)
  high : s.peek (s.pc + 2) = some (hiByte s.pc)
  nmiPending : s.nmiPending = false
  nmiDisabled : s.ppu.ctrl.getLsbD 7 = false
  irq : s.irqLevel = false ∨ s.p.i = true

end Sys2Proof.Machine
end

