-- ==== Sys2Proof/Certificates/Slice0/Obligations.lean ====
section
/-! DEFINITION. The statements for the provers: the rules of spec/ that say what an instruction or the machine does.
The state an instruction's meaning starts from is the one after its operand bytes are fetched, so PC is the address of
the next instruction there (40 R125); `Obligations.StepRunsDecodedInstruction` ties the meanings to a step. -/

namespace Sys2Proof.Claims

open Sys2Proof.Machine

/-! ### Views of a state -/

/-- The CPU's six registers (10 R20). -/
structure Registers where
  a : Byte
  x : Byte
  y : Byte
  sp : Byte
  pc : Word
  p : Flags
  deriving DecidableEq, Repr

/-- The registers of a state. -/
def registers (s : State) : Registers :=
  ⟨s.a, s.x, s.y, s.sp, s.pc, s.p⟩

/-- What a bus access can change: memories, devices, the NMI latch, the draws taken and the DMA stall. -/
structure Outside where
  ram : Mem
  cart : Cartridge
  ppu : Ppu
  pads : Pads
  nmiPending : Bool
  draws : Nat
  dmaStall : Nat
  deriving DecidableEq, Repr

/-- What lies behind the bus in a state. -/
def outside (s : State) : Outside :=
  ⟨s.ram, s.cart, s.ppu, s.pads, s.nmiPending, s.draws, s.dmaStall⟩

/-- What no instruction's meaning changes: fault, time base, parameter and the model's inputs. -/
structure Kept where
  fault : Option Fault
  totalCycles : Nat
  oamDmaStall : OamDmaStall
  irqIn : List Bool
  stepNo : Nat
  deriving DecidableEq, Repr

/-- What no instruction's meaning changes, in a state. -/
def kept (s : State) : Kept :=
  ⟨s.fault, s.totalCycles, s.oamDmaStall, s.irqIn, s.stepNo⟩

/-! ### Bytes, flags and addresses, written over numbers -/

/-- A number as a byte. -/
def byte (n : Nat) : Byte := BitVec.ofNat 8 n

/-- A number as an address, with 16-bit wrap. -/
def address (n : Nat) : Word := BitVec.ofNat 16 n

/-- The 16-bit value with these low and high bytes (00 R7). -/
def fromBytes (lo hi : Byte) : Word := address (lo.toNat + 256 * hi.toNat)

/-- Flags with Z and N of a byte (40 R141). -/
def zn (v : Byte) (p : Flags) : Flags :=
  { p with z := decide (v.toNat = 0), n := decide (128 ≤ v.toNat) }

/-- Flags with Z, C and N of an unsigned comparison (40 R142). -/
def comparison (reg m : Byte) (p : Flags) : Flags :=
  { p with
    z := decide (reg.toNat = m.toNat)
    c := decide (m.toNat ≤ reg.toNat)
    n := decide (128 ≤ (reg.toNat + 256 - m.toNat) % 256) }

/-- The byte pushed for P (10 R35). -/
def statusByte (p : Flags) (b : Bool) : Byte :=
  byte (128 * p.n.toNat + 64 * p.v.toNat + 32 + 16 * b.toNat + 8 * p.d.toNat + 4 * p.i.toNat + 2 * p.z.toNat +
    p.c.toNat)

/-- P of a pulled byte (10 R36). -/
def pulledFlags (m : Byte) : Flags where
  n := m.toNat.testBit 7
  v := m.toNat.testBit 6
  d := m.toNat.testBit 3
  i := m.toNat.testBit 2
  z := m.toNat.testBit 1
  c := m.toNat.testBit 0

/-- The page of an address. -/
def pageOf (a : Word) : Nat := a.toNat / 256

/-- The pointer in zero page at `z`, its high byte at `(z + 1) & 0xFF` (20 R51). -/
def zeroPagePointer (s : State) (z : Nat) : Word :=
  fromBytes (s.ram.read (z % 256)) (s.ram.read ((z + 1) % 256))

/-- Where an operand is (40 R128 to R139, R140). -/
def place (o : Operand) (s : State) : Loc :=
  match o with
  | .accumulator => .regA
  | .immediate v => .imm v
  | .zeroPage z => .mem (address z.toNat)
  | .zeroPageX z => .mem (address ((z.toNat + s.x.toNat) % 256))
  | .zeroPageY z => .mem (address ((z.toNat + s.y.toNat) % 256))
  | .absolute a => .mem a
  | .absoluteX a => .mem (address (a.toNat + s.x.toNat))
  | .absoluteY a => .mem (address (a.toNat + s.y.toNat))
  | .indirectX z => .mem (zeroPagePointer s (z.toNat + s.x.toNat))
  | .indirectY z => .mem (address ((zeroPagePointer s z.toNat).toNat + s.y.toNat))

/-- Whether a base address and the address indexed from it lie in different pages. -/
def leavesPage (base : Word) (index : Byte) : Bool :=
  decide (pageOf base ≠ pageOf (address (base.toNat + index.toNat)))

/-- `page_crossed` once an operand is located; the other modes leave it as it was (40 R126). -/
def crossed (o : Operand) (s : State) : Bool :=
  match o with
  | .absoluteX a => leavesPage a s.x
  | .absoluteY a => leavesPage a s.y
  | .indirectY z => leavesPage (zeroPagePointer s z.toNat) s.y
  | _ => s.pageCrossed

/-! ### Memory as a program sees it -/

/-- Two addresses of one byte of memory: the same address, or two mirrors of one byte of RAM (20 R56). -/
def SameByte (a b : Word) : Prop :=
  a = b ∨ (a.toNat < 0x2000 ∧ b.toNat < 0x2000 ∧ a.toNat % 0x800 = b.toNat % 0x800)

/-- Every byte of memory reads as before. -/
def KeepsMemory (s t : State) : Prop :=
  ∀ b, t.peek b = s.peek b

/-- A write at `ea` leaves every other byte of memory as it was; a write to the MMC1 serial port may bank other bytes
of the unchanged ROM into 0x8000–0xFFFF. -/
def KeepsOtherMemory (ea : Word) (s t : State) : Prop :=
  t.cart.prg = s.cart.prg ∧
  ∀ b, ¬ SameByte ea b → (b.toNat < 0x8000 ∨ ea.toNat < 0x8000 ∨ s.cart.kind = .nrom) → t.peek b = s.peek b

/-- Where RAM or PRG RAM answers at `ea`, the byte written is what it then holds. -/
def HoldsByte (ea : Word) (v : Byte) (s t : State) : Prop :=
  (ea.toNat < 0x2000 ∨ (0x6000 ≤ ea.toNat ∧ ea.toNat < 0x8000 ∧ s.cart.hasPrgRam = true)) → t.peek ea = some v

/-- The stack byte that S names (40 R124). -/
def slot (sp : Byte) : Nat := 0x100 + sp.toNat

/-- The three pushes of an exception entry, in RAM (45 R222; 60 R236). -/
def entryStack (ret : Word) (status : Byte) (s : State) : Mem :=
  ((s.ram.write (slot s.sp) (byte (ret.toNat / 256))).write (slot (s.sp - 1)) (byte ret.toNat)).write
    (slot (s.sp - 2)) status

/-- The state after an exception entry with this return address, stacked P byte and vector. -/
def entered (ret : Word) (status : Byte) (vector : Nat) (s : State) : State :=
  { s with
    ram := entryStack ret status s
    sp := s.sp - 3
    p := { s.p with i := true }
    pc := fromBytes (s.cart.read vector) (s.cart.read (vector + 1)) }

/-- Every byte of memory outside the top `n` stack bytes of `s` reads as before. -/
def KeepsAllButStack (n : Nat) (s t : State) : Prop :=
  ∀ b, (∀ k < n, ¬ SameByte (address (slot (s.sp - byte k))) b) → t.peek b = s.peek b

/-! ### What an instruction's rule says -/

/-- An instruction's opcode byte, mode, length, base cycles and page-cross flag (30 R105). -/
def Row (i : Instr) (opcode : Nat) (mode : Mode) (length cycles : Nat) (mayCross : Bool) : Prop :=
  i.opcode.toNat = opcode ∧ (encode i).length = length ∧
  ∃ row, table i.opcode = some row ∧ row.mode = mode ∧ row.baseCycles = cycles ∧ row.mayPageCross = mayCross

/-- The instruction completes: its operand is read once, with that read's effect on the devices, the registers become
`result m` of the byte read, every byte of memory stays, and nothing else changes but `page_crossed`. -/
def Reads (i : Instr) (o : Operand) (s : State) (result : Byte → Registers) : Prop :=
  let m := readLoc (place o s) s
  ∃ t, exec i s = .next t ∧ registers t = result m.1 ∧ outside t = outside m.2 ∧ kept t = kept s ∧
    t.pageCrossed = crossed o s ∧ t.branchTaken = s.branchTaken ∧ KeepsMemory s t

/-- The instruction completes: `v` is written once at its effective address, with that write's effect on the devices,
no register changes, every other byte of memory stays, and nothing else changes but `page_crossed`. -/
def Stores (i : Instr) (o : Operand) (s : State) (v : Byte) : Prop :=
  ∃ ea t, place o s = .mem ea ∧ exec i s = .next t ∧ registers t = registers s ∧
    outside t = outside (memWrite ea v s) ∧ kept t = kept s ∧
    t.pageCrossed = crossed o s ∧ t.branchTaken = s.branchTaken ∧
    HoldsByte ea v s t ∧ KeepsOtherMemory ea s t

/-- The instruction completes: the byte at its effective address is read once and `result` of it written back once,
with those accesses' effects on the devices, P becomes `flags` of it, every other byte of memory stays, and nothing
else changes but `page_crossed`. -/
def Modifies (i : Instr) (o : Operand) (s : State) (result : Byte → Byte) (flags : Byte → Flags) : Prop :=
  ∃ ea t, place o s = .mem ea ∧ exec i s = .next t ∧
    registers t = { registers s with p := flags (memRead ea s).1 } ∧
    outside t = outside (memWrite ea (result (memRead ea s).1) (memRead ea s).2) ∧ kept t = kept s ∧
    t.pageCrossed = crossed o s ∧ t.branchTaken = s.branchTaken ∧
    HoldsByte ea (result (memRead ea s).1) s t ∧ KeepsOtherMemory ea s t

/-- The instruction changes A from `m` to `result m` and P to `flags m`, and nothing else. -/
def ModifiesA (i : Instr) (s : State) (result : Byte → Byte) (flags : Byte → Flags) : Prop :=
  exec i s = .next { s with a := result s.a, p := flags s.a }

/-- The registers after a load of A. -/
def loadA (s : State) (m : Byte) : Registers := { registers s with a := m, p := zn m s.p }

/-- The registers after a load of X. -/
def loadX (s : State) (m : Byte) : Registers := { registers s with x := m, p := zn m s.p }

/-- The registers after a load of Y. -/
def loadY (s : State) (m : Byte) : Registers := { registers s with y := m, p := zn m s.p }

/-- The registers with other flags. -/
def withP (s : State) (p : Flags) : Registers := { registers s with p := p }

/-- The unsigned sum of ADC: A + m + C (40 R143). -/
def adcSum (s : State) (m : Byte) : Nat := s.a.toNat + m.toNat + s.p.c.toNat

/-- The signed sum of ADC. -/
def adcSigned (s : State) (m : Byte) : Int := s.a.toInt + m.toInt + s.p.c.toNat

/-- The registers after ADC: a binary sum whatever D holds, C its carry, V its signed overflow (42 R170). -/
def added (s : State) (m : Byte) : Registers :=
  { registers s with
    a := byte (adcSum s m)
    p := zn (byte (adcSum s m)) { s.p with
      c := decide (256 ≤ adcSum s m)
      v := decide (adcSigned s m < -128 ∨ 127 < adcSigned s m) } }

/-- The unsigned difference of SBC: A - m - (1 - C) (42 R171). -/
def sbcDiff (s : State) (m : Byte) : Int := s.a.toNat - m.toNat - (1 - s.p.c.toNat)

/-- The signed difference of SBC. -/
def sbcSigned (s : State) (m : Byte) : Int := s.a.toInt - m.toInt - (1 - s.p.c.toNat)

/-- The registers after SBC: C is 1 when no borrow occurred, V the signed overflow (42 R171). -/
def subtracted (s : State) (m : Byte) : Registers :=
  { registers s with
    a := BitVec.ofInt 8 (sbcDiff s m)
    p := zn (BitVec.ofInt 8 (sbcDiff s m)) { s.p with
      c := decide (0 ≤ sbcDiff s m)
      v := decide (sbcSigned s m < -128 ∨ 127 < sbcSigned s m) } }

/-- The registers after BIT (42 R175). -/
def bitTested (s : State) (m : Byte) : Registers :=
  { registers s with p := { s.p with
      z := decide (s.a &&& m = 0)
      n := m.toNat.testBit 7
      v := m.toNat.testBit 6 } }

/-- ASL's result: the byte doubled, modulo 256 (43 R190). -/
def aslByte (m : Byte) : Byte := byte (2 * m.toNat)

/-- LSR's result: the byte halved (43 R191). -/
def lsrByte (m : Byte) : Byte := byte (m.toNat / 2)

/-- ROL's result: the byte doubled, modulo 256, plus the old carry (43 R192). -/
def rolByte (c : Bool) (m : Byte) : Byte := byte (2 * m.toNat % 256 + c.toNat)

/-- ROR's result: the byte halved, plus the old carry as bit 7 (43 R193). -/
def rorByte (c : Bool) (m : Byte) : Byte := byte (m.toNat / 2 + 128 * c.toNat)

/-- The flags of a left shift or rotate: C from bit 7 (43 R190, R192). -/
def leftFlags (result : Byte → Byte) (p : Flags) (m : Byte) : Flags :=
  zn (result m) { p with c := decide (128 ≤ m.toNat) }

/-- The flags of a right shift or rotate: C from bit 0 (43 R191, R193). -/
def rightFlags (result : Byte → Byte) (p : Flags) (m : Byte) : Flags :=
  zn (result m) { p with c := decide (m.toNat % 2 = 1) }

/-- A branch: to its target when its condition holds, else on to the next instruction (44 R195). -/
def Branches (i : Instr) (off : Int) (cond : Bool) (s : State) : Prop :=
  let target := BitVec.ofInt 16 ((s.pc.toNat : Int) + off)
  exec i s = .next (if cond then
    { s with
      pc := target
      branchTaken := true
      pageCrossed := decide (pageOf s.pc ≠ pageOf target) }
  else s)

/-- The mnemonic of an instruction. -/
def mnemonicOf (i : Instr) : Option Mnemonic :=
  (table i.opcode).map (fun row => row.mnemonic)

/-! ### A step -/

/-- The next step runs an instruction: no fault, no NMI pending, and no IRQ that could be taken (60 R238). -/
structure RunsInstruction (s : State) : Prop where
  fault : s.fault = none
  nmi : s.nmiPending = false
  irq : s.p.i = true ∨ s.irqLevel = false

/-- Memory holds these bytes from PC on. -/
def CodeAtPc (s : State) (bs : List Byte) : Prop :=
  ∀ k < bs.length, s.peek (s.pc + address k) = some (bs.getD k 0)

/-- The state an instruction of `n` bytes starts from: PC past it, the per-instruction values reset (40 R120), and the
model's step number and input advanced (log 2). -/
def started (n : Nat) (s : State) : State :=
  { s with
    pc := s.pc + address n
    pageCrossed := false
    branchTaken := false
    dmaStall := 0
    irqIn := s.irqIn.tail
    stepNo := s.stepNo + 1 }

/-- The cycle count of an instruction from its table entry and the state after it (40 R122). -/
def cycleCount (row : TableRow) (t : State) : Nat :=
  row.baseCycles +
    (if row.mode = .relative then
      if t.branchTaken = true then (if t.pageCrossed = true then 2 else 1) else 0
    else if row.mayPageCross = true ∧ t.pageCrossed = true then 1 else 0) + t.dmaStall

/-- The state after the count of a CPU step is added and the PPU has run 3 cycles for each (40 R123, 60 R290). -/
def settled (c : Nat) (t : State) : State :=
  ppuSteps (3 * c) { t with totalCycles := t.totalCycles + c }

/-- The state with the model's step number and input advanced (log 2). -/
def polled (s : State) : State :=
  { s with irqIn := s.irqIn.tail, stepNo := s.stepNo + 1 }

/-! ### Devices -/

/-- An address in the PPU's register window that selects register `r` (20 R57). -/
def Selects (r : Nat) (addr : Word) : Prop :=
  0x2000 ≤ addr.toNat ∧ addr.toNat < 0x4000 ∧ addr.toNat % 8 = r

/-- The latch after a write of `v`: every bit refreshed (60 R247, R262). -/
def refreshed (v : Byte) (u : Ppu) : Ppu :=
  { u with ob := v, obTimers := [0, 0, 0, 0, 0, 0, 0, 0] }

/-- Byte `i` of the page that OAM DMA copies (20 R66). -/
def dmaSource (s : State) (pageNo : Byte) (i : Nat) : Byte :=
  let a := 256 * pageNo.toNat + i
  if a < 0x2000 then s.ram.read (a % 0x800)
  else if a < 0x4000 then s.ppu.ob
  else if a < 0x6000 then Config.draw (s.draws + i)
  else if a < 0x8000 then
    if s.cart.hasPrgRam = true then s.cart.prgRam.read (a - 0x6000) else Config.draw (s.draws + i)
  else s.cart.read a

/-- The stall of an OAM DMA (20 R63). -/
def dmaStallOf (s : State) : Nat :=
  match s.oamDmaStall with
  | .zero => 0
  | .hardware => 513 + s.totalCycles % 2

/-- The bits 4 to 2 of an attribute byte cleared (60 R253). -/
def attributeMasked (index : Nat) (b : Byte) : Byte :=
  if index % 4 = 2 then b &&& 0xE3 else b

/-- The physical pages of the four logical nametables (20 R91). -/
def mirrorRow : Mirroring → List Nat
  | .horizontal => [0, 0, 1, 1]
  | .vertical => [0, 1, 0, 1]
  | .oneScreenLower => [0, 0, 0, 0]
  | .oneScreenUpper => [1, 1, 1, 1]

/-- The palette entry of an address 0x3F00–0x3FFF (20 R92). -/
def paletteEntry (a : Nat) : Nat :=
  let p := a % 32
  if p ∈ [0x10, 0x14, 0x18, 0x1C] then p - 0x10 else p

/-- The state after a run of reads of a controller port. -/
def readPad (port : Word) : Nat → State → State
  | 0, s => s
  | n + 1, s => readPad port n (memRead port s).2

/-- A run of reads of a controller port: the bit 0 of each, in order. -/
def padBits (port : Word) : Nat → State → List Bool
  | 0, _ => []
  | n + 1, s => (memRead port s).1.getLsbD 0 :: padBits port n (memRead port s).2

/-- Open-bus ticks, one after another. -/
def ticks : Nat → Ppu → Ppu
  | 0, u => u
  | n + 1, u => ticks n u.openBusTick

/-- MMC1 serial writes, one after another, as (address, value). -/
def serialWrites : List (Nat × Byte) → Mmc1 → Mmc1
  | [], m => m
  | (a, v) :: l, m => serialWrites l (m.serialWrite a v)

/-- `EvaluateSprites` as the loop over the sprites that are left: secondary OAM and the overflow flag (60 R267). -/
def evaluationLoop (u : Ppu) (line : Int) : List Nat → List SpriteEntry → Bool → List SpriteEntry × Bool
  | [], secondary, overflow => (secondary, overflow)
  | i :: rest, secondary, overflow =>
    let y : Int := (u.oam.read (4 * i)).toNat
    let height : Int := if u.ctrl.getLsbD 5 then 16 else 8
    if 0 ≤ line - (y + 1) ∧ line - (y + 1) < height then
      if secondary.length < 8 then
        evaluationLoop u line rest
          (secondary ++ [{
            index := i
            y := u.oam.read (4 * i)
            tile := u.oam.read (4 * i + 1)
            attr := u.oam.read (4 * i + 2)
            x := u.oam.read (4 * i + 3) }]) overflow
      else (secondary, true)
    else evaluationLoop u line rest secondary overflow

/-- `SpritePixel` as the loop over the entries of secondary OAM that are left, in numbers (60 R268). -/
def spriteLoop (px : Nat) (line : Int) (s : State) : List SpriteEntry → Option SpritePixel
  | [] => none
  | e :: rest =>
    let height : Int := if s.ppu.ctrl.getLsbD 5 then 16 else 8
    let col := (px : Int) - e.x.toNat
    let row := line - ((e.y.toNat : Int) + 1)
    if 0 ≤ col ∧ col < 8 ∧ 0 ≤ row ∧ row < height then
      let col := if e.attr.toNat.testBit 6 then 7 - col else col
      let row := if e.attr.toNat.testBit 7 then height - 1 - row else row
      let pattern : Int :=
        if height = 8 then (if s.ppu.ctrl.getLsbD 3 then 0x1000 else 0) + e.tile.toNat * 16 + row
        else e.tile.toNat % 2 * 0x1000 + (e.tile.toNat / 2 * 2 + if 8 ≤ row then 1 else 0) * 16 + row % 8
      let lo := ppuRead (address pattern.toNat) s
      let hi := ppuRead (address (pattern.toNat + 8)) s
      let pix := (lo.getLsbD (7 - col.toNat)).toNat + 2 * (hi.getLsbD (7 - col.toNat)).toNat
      if pix ≠ 0 then
        some {
          pix := BitVec.ofNat 2 pix
          pal := BitVec.ofNat 2 e.attr.toNat
          behind := e.attr.toNat.testBit 5
          index := e.index }
      else spriteLoop px line s rest
    else spriteLoop px line s rest

/-- A loopy register from its fields: coarse X, coarse Y, nametable, fine Y (60 R259). -/
def loopy (coarseX coarseY nametable fineY : Nat) : BitVec 15 :=
  BitVec.ofNat 15 (coarseX + 32 * coarseY + 1024 * nametable + 4096 * fineY)

/-- The 105 bytes that are no instruction (30 R108). -/
def invalidBytes : List Nat :=
  [0x02, 0x03, 0x04, 0x07, 0x0B, 0x0C, 0x0F, 0x12, 0x13, 0x14, 0x17, 0x1A, 0x1B, 0x1C, 0x1F, 0x22, 0x23, 0x27, 0x2B,
   0x2F, 0x32, 0x33, 0x34, 0x37, 0x3A, 0x3B, 0x3C, 0x3F, 0x42, 0x43, 0x44, 0x47, 0x4B, 0x4F] ++
  [0x52, 0x53, 0x54, 0x57, 0x5A, 0x5B, 0x5C, 0x5F, 0x62, 0x63, 0x64, 0x67, 0x6B, 0x6F, 0x72, 0x73, 0x74, 0x77, 0x7A,
   0x7B, 0x7C, 0x7F, 0x80, 0x82, 0x83, 0x87, 0x89, 0x8B, 0x8F, 0x92, 0x93, 0x97, 0x9B, 0x9C, 0x9E, 0x9F] ++
  [0xA3, 0xA7, 0xAB, 0xAF, 0xB2, 0xB3, 0xB7, 0xBB, 0xBF, 0xC2, 0xC3, 0xC7, 0xCB, 0xCF, 0xD2, 0xD3, 0xD4, 0xD7, 0xDA,
   0xDB, 0xDC, 0xDF, 0xE2, 0xE3, 0xE7, 0xEB, 0xEF, 0xF2, 0xF3, 0xF4, 0xF7, 0xFA, 0xFB, 0xFC, 0xFF]

/-- The entry of R105's table for an opcode byte: mnemonic, mode, base cycles, page-cross flag. -/
abbrev Entry := Mnemonic × Mode × Nat × Bool

/-- The three bytes an exception entry stacks, where a program reads them, and every other byte of memory kept. -/
def Stacks3 (ret : Word) (status : Byte) (s t : State) : Prop :=
  t.peek (address (slot s.sp)) = some (byte (ret.toNat / 256)) ∧
  t.peek (address (slot (s.sp - 1))) = some (byte ret.toNat) ∧
  t.peek (address (slot (s.sp - 2))) = some status ∧
  KeepsAllButStack 3 s t

/-- The instruction completes: it pushes a byte, and nothing else changes. -/
def Pushes (i : Instr) (s : State) (v : Byte) : Prop :=
  ∃ t, t = { s with ram := s.ram.write (slot s.sp) v, sp := s.sp - 1 } ∧ exec i s = .next t ∧
    (s.Inv → t.peek (address (slot s.sp)) = some v ∧ KeepsAllButStack 1 s t)

/-- The OPEN power-on memories have their sizes and widths (10 R44, 60 R244). -/
structure OpenMemoriesFit (o : OpenValues) : Prop where
  ram : o.ram.wf 0x800 = true
  prgRam : o.prgRam.wf 0x2000 = true
  chrRam : o.chrRam.wf 0x2000 = true
  vram : o.vram.wf 2048 = true
  palette : o.palette.wf 32 = true
  colours : ∀ p < 32, o.palette.read p < 64
  oam : o.oam.wf 256 = true

/-- Row 0x of R105's opcode map. -/
def mapRow0 : List (Option Entry) := [
  some (.brk, .implied, 7, false), some (.ora, .indexedIndirectX, 6, false), none, none,
  none, some (.ora, .zeroPage, 3, false), some (.asl, .zeroPage, 5, false), none,
  some (.php, .implied, 3, false), some (.ora, .immediate, 2, false), some (.asl, .accumulator, 2, false), none,
  none, some (.ora, .absolute, 4, false), some (.asl, .absolute, 6, false), none]

/-- Row 1x of R105's opcode map. -/
def mapRow1 : List (Option Entry) := [
  some (.bpl, .relative, 2, false), some (.ora, .indirectIndexedY, 5, true), none, none,
  none, some (.ora, .zeroPageX, 4, false), some (.asl, .zeroPageX, 6, false), none,
  some (.clc, .implied, 2, false), some (.ora, .absoluteY, 4, true), none, none,
  none, some (.ora, .absoluteX, 4, true), some (.asl, .absoluteX, 7, false), none]

/-- Row 2x of R105's opcode map. -/
def mapRow2 : List (Option Entry) := [
  some (.jsr, .absolute, 6, false), some (.and, .indexedIndirectX, 6, false), none, none,
  some (.bit, .zeroPage, 3, false), some (.and, .zeroPage, 3, false), some (.rol, .zeroPage, 5, false), none,
  some (.plp, .implied, 4, false), some (.and, .immediate, 2, false), some (.rol, .accumulator, 2, false), none,
  some (.bit, .absolute, 4, false), some (.and, .absolute, 4, false), some (.rol, .absolute, 6, false), none]

/-- Row 3x of R105's opcode map. -/
def mapRow3 : List (Option Entry) := [
  some (.bmi, .relative, 2, false), some (.and, .indirectIndexedY, 5, true), none, none,
  none, some (.and, .zeroPageX, 4, false), some (.rol, .zeroPageX, 6, false), none,
  some (.sec, .implied, 2, false), some (.and, .absoluteY, 4, true), none, none,
  none, some (.and, .absoluteX, 4, true), some (.rol, .absoluteX, 7, false), none]

/-- Row 4x of R105's opcode map. -/
def mapRow4 : List (Option Entry) := [
  some (.rti, .implied, 6, false), some (.eor, .indexedIndirectX, 6, false), none, none,
  none, some (.eor, .zeroPage, 3, false), some (.lsr, .zeroPage, 5, false), none,
  some (.pha, .implied, 3, false), some (.eor, .immediate, 2, false), some (.lsr, .accumulator, 2, false), none,
  some (.jmp, .absolute, 3, false), some (.eor, .absolute, 4, false), some (.lsr, .absolute, 6, false), none]

/-- Row 5x of R105's opcode map. -/
def mapRow5 : List (Option Entry) := [
  some (.bvc, .relative, 2, false), some (.eor, .indirectIndexedY, 5, true), none, none,
  none, some (.eor, .zeroPageX, 4, false), some (.lsr, .zeroPageX, 6, false), none,
  some (.cli, .implied, 2, false), some (.eor, .absoluteY, 4, true), none, none,
  none, some (.eor, .absoluteX, 4, true), some (.lsr, .absoluteX, 7, false), none]

/-- Row 6x of R105's opcode map. -/
def mapRow6 : List (Option Entry) := [
  some (.rts, .implied, 6, false), some (.adc, .indexedIndirectX, 6, false), none, none,
  none, some (.adc, .zeroPage, 3, false), some (.ror, .zeroPage, 5, false), none,
  some (.pla, .implied, 4, false), some (.adc, .immediate, 2, false), some (.ror, .accumulator, 2, false), none,
  some (.jmp, .indirect, 5, false), some (.adc, .absolute, 4, false), some (.ror, .absolute, 6, false), none]

/-- Row 7x of R105's opcode map. -/
def mapRow7 : List (Option Entry) := [
  some (.bvs, .relative, 2, false), some (.adc, .indirectIndexedY, 5, true), none, none,
  none, some (.adc, .zeroPageX, 4, false), some (.ror, .zeroPageX, 6, false), none,
  some (.sei, .implied, 2, false), some (.adc, .absoluteY, 4, true), none, none,
  none, some (.adc, .absoluteX, 4, true), some (.ror, .absoluteX, 7, false), none]

/-- Row 8x of R105's opcode map. -/
def mapRow8 : List (Option Entry) := [
  none, some (.sta, .indexedIndirectX, 6, false), none, none,
  some (.sty, .zeroPage, 3, false), some (.sta, .zeroPage, 3, false), some (.stx, .zeroPage, 3, false), none,
  some (.dey, .implied, 2, false), none, some (.txa, .implied, 2, false), none,
  some (.sty, .absolute, 4, false), some (.sta, .absolute, 4, false), some (.stx, .absolute, 4, false), none]

/-- Row 9x of R105's opcode map. -/
def mapRow9 : List (Option Entry) := [
  some (.bcc, .relative, 2, false), some (.sta, .indirectIndexedY, 6, false), none, none,
  some (.sty, .zeroPageX, 4, false), some (.sta, .zeroPageX, 4, false), some (.stx, .zeroPageY, 4, false), none,
  some (.tya, .implied, 2, false), some (.sta, .absoluteY, 5, false), some (.txs, .implied, 2, false), none,
  none, some (.sta, .absoluteX, 5, false), none, none]

/-- Row Ax of R105's opcode map. -/
def mapRowA : List (Option Entry) := [
  some (.ldy, .immediate, 2, false), some (.lda, .indexedIndirectX, 6, false), some (.ldx, .immediate, 2, false), none,
  some (.ldy, .zeroPage, 3, false), some (.lda, .zeroPage, 3, false), some (.ldx, .zeroPage, 3, false), none,
  some (.tay, .implied, 2, false), some (.lda, .immediate, 2, false), some (.tax, .implied, 2, false), none,
  some (.ldy, .absolute, 4, false), some (.lda, .absolute, 4, false), some (.ldx, .absolute, 4, false), none]

/-- Row Bx of R105's opcode map. -/
def mapRowB : List (Option Entry) := [
  some (.bcs, .relative, 2, false), some (.lda, .indirectIndexedY, 5, true), none, none,
  some (.ldy, .zeroPageX, 4, false), some (.lda, .zeroPageX, 4, false), some (.ldx, .zeroPageY, 4, false), none,
  some (.clv, .implied, 2, false), some (.lda, .absoluteY, 4, true), some (.tsx, .implied, 2, false), none,
  some (.ldy, .absoluteX, 4, true), some (.lda, .absoluteX, 4, true), some (.ldx, .absoluteY, 4, true), none]

/-- Row Cx of R105's opcode map. -/
def mapRowC : List (Option Entry) := [
  some (.cpy, .immediate, 2, false), some (.cmp, .indexedIndirectX, 6, false), none, none,
  some (.cpy, .zeroPage, 3, false), some (.cmp, .zeroPage, 3, false), some (.dec, .zeroPage, 5, false), none,
  some (.iny, .implied, 2, false), some (.cmp, .immediate, 2, false), some (.dex, .implied, 2, false), none,
  some (.cpy, .absolute, 4, false), some (.cmp, .absolute, 4, false), some (.dec, .absolute, 6, false), none]

/-- Row Dx of R105's opcode map. -/
def mapRowD : List (Option Entry) := [
  some (.bne, .relative, 2, false), some (.cmp, .indirectIndexedY, 5, true), none, none,
  none, some (.cmp, .zeroPageX, 4, false), some (.dec, .zeroPageX, 6, false), none,
  some (.cld, .implied, 2, false), some (.cmp, .absoluteY, 4, true), none, none,
  none, some (.cmp, .absoluteX, 4, true), some (.dec, .absoluteX, 7, false), none]

/-- Row Ex of R105's opcode map. -/
def mapRowE : List (Option Entry) := [
  some (.cpx, .immediate, 2, false), some (.sbc, .indexedIndirectX, 6, false), none, none,
  some (.cpx, .zeroPage, 3, false), some (.sbc, .zeroPage, 3, false), some (.inc, .zeroPage, 5, false), none,
  some (.inx, .implied, 2, false), some (.sbc, .immediate, 2, false), some (.nop, .implied, 2, false), none,
  some (.cpx, .absolute, 4, false), some (.sbc, .absolute, 4, false), some (.inc, .absolute, 6, false), none]

/-- Row Fx of R105's opcode map. -/
def mapRowF : List (Option Entry) := [
  some (.beq, .relative, 2, false), some (.sbc, .indirectIndexedY, 5, true), none, none,
  none, some (.sbc, .zeroPageX, 4, false), some (.inc, .zeroPageX, 6, false), none,
  some (.sed, .implied, 2, false), some (.sbc, .absoluteY, 4, true), none, none,
  none, some (.sbc, .absoluteX, 4, true), some (.inc, .absoluteX, 7, false), none]

/-- R105's opcode map, by high nibble and low nibble. -/
def opcodeMap : List (List (Option Entry)) :=
  [mapRow0, mapRow1, mapRow2, mapRow3, mapRow4, mapRow5, mapRow6, mapRow7] ++
  [mapRow8, mapRow9, mapRowA, mapRowB, mapRowC, mapRowD, mapRowE, mapRowF]

end Sys2Proof.Claims

open Sys2Proof Sys2Proof.Machine Sys2Proof.Claims

/-! ### Encoding -/

/-- Every well-formed instruction decodes from its own bytes, whatever follows them (30 R100 to R103). -/
def Obligations.DecodeInvertsEncode : Prop :=
  ∀ (i : Instr) (rest : List Byte), i.wellFormed = true → decode (encode i ++ rest) = .ok (i, rest)

/-- What decodes is the encoding of a well-formed instruction: no byte and no bit is read twice or dropped
(30 R101 to R103). -/
def Obligations.EncodeInvertsDecode : Prop :=
  ∀ (bs rest : List Byte) (i : Instr), decode bs = .ok (i, rest) → bs = encode i ++ rest ∧ i.wellFormed = true

/-- The instruction table is R105's opcode map, cell by cell; and one instruction of each addressing mode decodes from
its bytes, written out bit by bit from 30 R101 and R105. -/
def Obligations.OpcodeMapAndSampleWordsDecode : Prop :=
  (∀ b : Byte, (table b).map (fun row => (row.mnemonic, row.mode, row.baseCycles, row.mayPageCross)) =
    (opcodeMap.getD (b.toNat / 16) []).getD (b.toNat % 16) none) ∧
  decode [0b11101000] = .ok (.inx, []) ∧
  decode [0b00001010] = .ok (.aslAcc, []) ∧
  decode [0b10101001, 0b01111111] = .ok (.ldaImm 0x7F, []) ∧
  decode [0b10100101, 0b00010000] = .ok (.ldaZp 0x10, []) ∧
  decode [0b10110101, 0b11110000] = .ok (.ldaZpX 0xF0, []) ∧
  decode [0b10110110, 0b11111111] = .ok (.ldxZpY 0xFF, []) ∧
  decode [0b11110000, 0b11111110] = .ok (.beq (-2), []) ∧
  decode [0b10101101, 0b00110100, 0b00010010] = .ok (.ldaAbs 0x1234, []) ∧
  decode [0b10111101, 0b11111111, 0b00010000] = .ok (.ldaAbsX 0x10FF, []) ∧
  decode [0b10111001, 0b00000000, 0b00100000] = .ok (.ldaAbsY 0x2000, []) ∧
  decode [0b01101100, 0b11111111, 0b00000010] = .ok (.jmpInd 0x02FF, []) ∧
  decode [0b10100001, 0b11111110] = .ok (.ldaIndX 0xFE, []) ∧
  decode [0b10110001, 0b00010000] = .ok (.ldaIndY 0x10, [])

/-! ### A step, faults and interrupts -/

/-- When memory holds a well-formed instruction's bytes at PC and the step runs an instruction, the step is that
instruction's meaning, from the state past its bytes, with its cycles counted and the PPU caught up
(40 R120 to R123, 60 R290). -/
def Obligations.StepRunsDecodedInstruction : Prop :=
  ∀ (i : Instr) (row : TableRow) (s : State), i.wellFormed = true → table i.opcode = some row →
    RunsInstruction s → CodeAtPc s (encode i) →
    step s = match exec i (started (encode i).length s) with
      | .next t => .next (settled (cycleCount row t) t)
      | .fault r => .fault r
      | .refused r => .refused r

/-- The 105 bytes of R108 are exactly those with no instruction, and they do not decode. A step that fetches one
records `UnimplementedOpcode` with the byte and its address; its state is the one after the opcode read, with PC one
past it, and no cycle counted. From then on there is no step (60 R231). -/
def Obligations.UnimplementedOpcodeStopsTheMachine : Prop :=
  (∀ b : Byte, table b = none ↔ b.toNat ∈ invalidBytes) ∧
  (∀ (b : Byte) (rest : List Byte), b.toNat ∈ invalidBytes → decode (b :: rest) = .error (.unimplementedOpcode b)) ∧
  (∀ s : State, RunsInstruction s → (memRead s.pc (polled s)).1.toNat ∈ invalidBytes →
    ∃ t, step s = .next t ∧
      t = { (memRead s.pc (polled s)).2 with
        pc := s.pc + 1
        fault := some (.unimplementedOpcode (memRead s.pc (polled s)).1 s.pc) } ∧
      registers t = { registers s with pc := s.pc + 1 } ∧ KeepsMemory s t ∧ t.totalCycles = s.totalCycles) ∧
  (∀ (s : State) (r : Fault), s.fault = some r → step s = .fault r)

/-- No instruction faults or is refused: each answers a next state from every state, and leaves the fault, the time
base and the parameter alone (60 R233, R240). -/
def Obligations.EveryInstructionCompletes : Prop :=
  ∀ (i : Instr) (s : State), ∃ t, exec i s = .next t ∧ kept t = kept s

/-- A pending NMI is taken at the start of the step, before any fetch: the latch is cleared, PC and P (bit 4 = 0) are
stacked, I is set, PC comes from 0xFFFA, and the entry takes 7 cycles (60 R236). -/
def Obligations.NmiEntryFollowsItsRule : Prop :=
  ∀ s : State, s.fault = none → s.nmiPending = true →
    ∃ t, t = entered s.pc (statusByte s.p false) 0xFFFA { polled s with nmiPending := false } ∧
      step s = .next (settled 7 t) ∧ (s.Inv → Stacks3 s.pc (statusByte s.p false) s t)

/-- With no NMI pending, an asserted IRQ is taken when I is 0, as the NMI but through 0xFFFE (60 R237). -/
def Obligations.IrqEntryFollowsItsRule : Prop :=
  ∀ s : State, s.fault = none → s.nmiPending = false → s.irqLevel = true → s.p.i = false →
    ∃ t, t = entered s.pc (statusByte s.p false) 0xFFFE (polled s) ∧
      step s = .next (settled 7 t) ∧ (s.Inv → Stacks3 s.pc (statusByte s.p false) s t)

/-- While I is 1, or an NMI is pending, the level of IRQ_LINE makes no difference to the step (60 R235, R238). -/
def Obligations.MaskedIrqMakesNoDifference : Prop :=
  ∀ (s : State) (l l' : Bool) (rest : List Bool), s.p.i = true ∨ s.nmiPending = true →
    step { s with irqIn := l :: rest } = step { s with irqIn := l' :: rest }

/-- BRK stacks the address of BRK + 2 and P with bits 4 and 5 set, sets I, and loads PC from 0xFFFE; D stays
(45 R222). PC is BRK + 1 when the meaning starts. -/
def Obligations.BrkEntersTheHandler : Prop :=
  ∀ s : State, Row .brk 0x00 .implied 1 7 false ∧
    ∃ t, t = entered (s.pc + 1) (statusByte s.p true) 0xFFFE s ∧ exec .brk s = .next t ∧
      (s.Inv → Stacks3 (s.pc + 1) (statusByte s.p true) s t)

/-- RTI pulls P, bits 5 and 4 ignored, and then PC, low byte first, with no + 1; nothing else changes (45 R223). -/
def Obligations.RtiRestoresStatusAndPc : Prop :=
  ∀ s : State, Row .rti 0x40 .implied 1 6 false ∧
    exec .rti s = .next { s with
      sp := s.sp + 3
      p := pulledFlags (s.ram.read (slot (s.sp + 1)))
      pc := fromBytes (s.ram.read (slot (s.sp + 2))) (s.ram.read (slot (s.sp + 3))) }

/-- RTI resumes what an NMI or IRQ interrupted, with every register and flag as it was, and returns from BRK past its
second byte; only the three stack bytes differ (60 R236, R239; 45 R222). -/
def Obligations.RtiUndoesEveryEntry : Prop :=
  ∀ s : State, s.Inv →
    (∃ t, exec .rti (nmiEntry s) = .next t ∧ registers t = registers s ∧ KeepsAllButStack 3 s t) ∧
    (∃ t, exec .rti (irqEntry s) = .next t ∧ registers t = registers s ∧ KeepsAllButStack 3 s t) ∧
    (∃ u t, exec .brk s = .next u ∧ exec .rti u = .next t ∧
      registers t = { registers s with pc := s.pc + 1 } ∧ KeepsAllButStack 3 s t)

/-! ### Loads, stores and transfers -/

/-- LDA, LDX and LDY, every form: A, X or Y becomes the operand, Z and N follow it; C, V, D, I and every other register
stay (41 R150 to R152). -/
def Obligations.LoadsReadTheirOperand : Prop :=
  ∀ (s : State) (v z : Byte) (a : Word),
    Row (.ldaIndX z) 0xA1 .indexedIndirectX 2 6 false ∧ Reads (.ldaIndX z) (.indirectX z) s (loadA s) ∧
    Row (.ldaZp z) 0xA5 .zeroPage 2 3 false ∧ Reads (.ldaZp z) (.zeroPage z) s (loadA s) ∧
    Row (.ldaImm v) 0xA9 .immediate 2 2 false ∧ Reads (.ldaImm v) (.immediate v) s (loadA s) ∧
    Row (.ldaAbs a) 0xAD .absolute 3 4 false ∧ Reads (.ldaAbs a) (.absolute a) s (loadA s) ∧
    Row (.ldaIndY z) 0xB1 .indirectIndexedY 2 5 true ∧ Reads (.ldaIndY z) (.indirectY z) s (loadA s) ∧
    Row (.ldaZpX z) 0xB5 .zeroPageX 2 4 false ∧ Reads (.ldaZpX z) (.zeroPageX z) s (loadA s) ∧
    Row (.ldaAbsY a) 0xB9 .absoluteY 3 4 true ∧ Reads (.ldaAbsY a) (.absoluteY a) s (loadA s) ∧
    Row (.ldaAbsX a) 0xBD .absoluteX 3 4 true ∧ Reads (.ldaAbsX a) (.absoluteX a) s (loadA s) ∧
    Row (.ldxImm v) 0xA2 .immediate 2 2 false ∧ Reads (.ldxImm v) (.immediate v) s (loadX s) ∧
    Row (.ldxZp z) 0xA6 .zeroPage 2 3 false ∧ Reads (.ldxZp z) (.zeroPage z) s (loadX s) ∧
    Row (.ldxAbs a) 0xAE .absolute 3 4 false ∧ Reads (.ldxAbs a) (.absolute a) s (loadX s) ∧
    Row (.ldxZpY z) 0xB6 .zeroPageY 2 4 false ∧ Reads (.ldxZpY z) (.zeroPageY z) s (loadX s) ∧
    Row (.ldxAbsY a) 0xBE .absoluteY 3 4 true ∧ Reads (.ldxAbsY a) (.absoluteY a) s (loadX s) ∧
    Row (.ldyImm v) 0xA0 .immediate 2 2 false ∧ Reads (.ldyImm v) (.immediate v) s (loadY s) ∧
    Row (.ldyZp z) 0xA4 .zeroPage 2 3 false ∧ Reads (.ldyZp z) (.zeroPage z) s (loadY s) ∧
    Row (.ldyAbs a) 0xAC .absolute 3 4 false ∧ Reads (.ldyAbs a) (.absolute a) s (loadY s) ∧
    Row (.ldyZpX z) 0xB4 .zeroPageX 2 4 false ∧ Reads (.ldyZpX z) (.zeroPageX z) s (loadY s) ∧
    Row (.ldyAbsX a) 0xBC .absoluteX 3 4 true ∧ Reads (.ldyAbsX a) (.absoluteX a) s (loadY s)

/-- STA, STX and STY, every form: one write of the register at the effective address and no read of it; no flag
changes (41 R153 to R155). -/
def Obligations.StoresWriteTheirRegister : Prop :=
  ∀ (s : State) (z : Byte) (a : Word), s.Inv →
    Row (.staIndX z) 0x81 .indexedIndirectX 2 6 false ∧ Stores (.staIndX z) (.indirectX z) s s.a ∧
    Row (.staZp z) 0x85 .zeroPage 2 3 false ∧ Stores (.staZp z) (.zeroPage z) s s.a ∧
    Row (.staAbs a) 0x8D .absolute 3 4 false ∧ Stores (.staAbs a) (.absolute a) s s.a ∧
    Row (.staIndY z) 0x91 .indirectIndexedY 2 6 false ∧ Stores (.staIndY z) (.indirectY z) s s.a ∧
    Row (.staZpX z) 0x95 .zeroPageX 2 4 false ∧ Stores (.staZpX z) (.zeroPageX z) s s.a ∧
    Row (.staAbsY a) 0x99 .absoluteY 3 5 false ∧ Stores (.staAbsY a) (.absoluteY a) s s.a ∧
    Row (.staAbsX a) 0x9D .absoluteX 3 5 false ∧ Stores (.staAbsX a) (.absoluteX a) s s.a ∧
    Row (.stxZp z) 0x86 .zeroPage 2 3 false ∧ Stores (.stxZp z) (.zeroPage z) s s.x ∧
    Row (.stxAbs a) 0x8E .absolute 3 4 false ∧ Stores (.stxAbs a) (.absolute a) s s.x ∧
    Row (.stxZpY z) 0x96 .zeroPageY 2 4 false ∧ Stores (.stxZpY z) (.zeroPageY z) s s.x ∧
    Row (.styZp z) 0x84 .zeroPage 2 3 false ∧ Stores (.styZp z) (.zeroPage z) s s.y ∧
    Row (.styAbs a) 0x8C .absolute 3 4 false ∧ Stores (.styAbs a) (.absolute a) s s.y ∧
    Row (.styZpX z) 0x94 .zeroPageX 2 4 false ∧ Stores (.styZpX z) (.zeroPageX z) s s.y

/-- TAX, TAY, TXA, TYA and TSX copy a register and set Z and N; TXS copies X to S and writes no flag; nothing else
changes (41 R156 to R161). -/
def Obligations.TransfersCopyARegister : Prop :=
  ∀ s : State,
    Row .tax 0xAA .implied 1 2 false ∧ exec .tax s = .next { s with x := s.a, p := zn s.a s.p } ∧
    Row .tay 0xA8 .implied 1 2 false ∧ exec .tay s = .next { s with y := s.a, p := zn s.a s.p } ∧
    Row .txa 0x8A .implied 1 2 false ∧ exec .txa s = .next { s with a := s.x, p := zn s.x s.p } ∧
    Row .tya 0x98 .implied 1 2 false ∧ exec .tya s = .next { s with a := s.y, p := zn s.y s.p } ∧
    Row .tsx 0xBA .implied 1 2 false ∧ exec .tsx s = .next { s with x := s.sp, p := zn s.sp s.p } ∧
    Row .txs 0x9A .implied 1 2 false ∧ exec .txs s = .next { s with sp := s.x }

/-! ### Arithmetic, logic, compare, increment and decrement -/

/-- ADC, every form: A becomes the low byte of A + M + C; C is the carry out of bit 7 and V the overflow of the signed
sum, whatever D holds (42 R170). -/
def Obligations.AdcAddsInBinary : Prop :=
  ∀ (s : State) (v z : Byte) (a : Word),
    Row (.adcIndX z) 0x61 .indexedIndirectX 2 6 false ∧ Reads (.adcIndX z) (.indirectX z) s (added s) ∧
    Row (.adcZp z) 0x65 .zeroPage 2 3 false ∧ Reads (.adcZp z) (.zeroPage z) s (added s) ∧
    Row (.adcImm v) 0x69 .immediate 2 2 false ∧ Reads (.adcImm v) (.immediate v) s (added s) ∧
    Row (.adcAbs a) 0x6D .absolute 3 4 false ∧ Reads (.adcAbs a) (.absolute a) s (added s) ∧
    Row (.adcIndY z) 0x71 .indirectIndexedY 2 5 true ∧ Reads (.adcIndY z) (.indirectY z) s (added s) ∧
    Row (.adcZpX z) 0x75 .zeroPageX 2 4 false ∧ Reads (.adcZpX z) (.zeroPageX z) s (added s) ∧
    Row (.adcAbsY a) 0x79 .absoluteY 3 4 true ∧ Reads (.adcAbsY a) (.absoluteY a) s (added s) ∧
    Row (.adcAbsX a) 0x7D .absoluteX 3 4 true ∧ Reads (.adcAbsX a) (.absoluteX a) s (added s)

/-- SBC, every form: A becomes the low byte of A - M - (1 - C); C is 1 when there is no borrow and V is the signed
overflow, whatever D holds (42 R171). -/
def Obligations.SbcSubtractsInBinary : Prop :=
  ∀ (s : State) (v z : Byte) (a : Word),
    Row (.sbcIndX z) 0xE1 .indexedIndirectX 2 6 false ∧ Reads (.sbcIndX z) (.indirectX z) s (subtracted s) ∧
    Row (.sbcZp z) 0xE5 .zeroPage 2 3 false ∧ Reads (.sbcZp z) (.zeroPage z) s (subtracted s) ∧
    Row (.sbcImm v) 0xE9 .immediate 2 2 false ∧ Reads (.sbcImm v) (.immediate v) s (subtracted s) ∧
    Row (.sbcAbs a) 0xED .absolute 3 4 false ∧ Reads (.sbcAbs a) (.absolute a) s (subtracted s) ∧
    Row (.sbcIndY z) 0xF1 .indirectIndexedY 2 5 true ∧ Reads (.sbcIndY z) (.indirectY z) s (subtracted s) ∧
    Row (.sbcZpX z) 0xF5 .zeroPageX 2 4 false ∧ Reads (.sbcZpX z) (.zeroPageX z) s (subtracted s) ∧
    Row (.sbcAbsY a) 0xF9 .absoluteY 3 4 true ∧ Reads (.sbcAbsY a) (.absoluteY a) s (subtracted s) ∧
    Row (.sbcAbsX a) 0xFD .absoluteX 3 4 true ∧ Reads (.sbcAbsX a) (.absoluteX a) s (subtracted s)

/-- AND, ORA and EOR, every form: A becomes the bitwise result, Z and N follow it (42 R172 to R174). -/
def Obligations.LogicCombinesAWithItsOperand : Prop :=
  ∀ (s : State) (v z : Byte) (a : Word),
    Row (.andIndX z) 0x21 .indexedIndirectX 2 6 false ∧ Reads (.andIndX z) (.indirectX z) s (fun m => loadA s (s.a &&& m)) ∧
    Row (.andZp z) 0x25 .zeroPage 2 3 false ∧ Reads (.andZp z) (.zeroPage z) s (fun m => loadA s (s.a &&& m)) ∧
    Row (.andImm v) 0x29 .immediate 2 2 false ∧ Reads (.andImm v) (.immediate v) s (fun m => loadA s (s.a &&& m)) ∧
    Row (.andAbs a) 0x2D .absolute 3 4 false ∧ Reads (.andAbs a) (.absolute a) s (fun m => loadA s (s.a &&& m)) ∧
    Row (.andIndY z) 0x31 .indirectIndexedY 2 5 true ∧ Reads (.andIndY z) (.indirectY z) s (fun m => loadA s (s.a &&& m)) ∧
    Row (.andZpX z) 0x35 .zeroPageX 2 4 false ∧ Reads (.andZpX z) (.zeroPageX z) s (fun m => loadA s (s.a &&& m)) ∧
    Row (.andAbsY a) 0x39 .absoluteY 3 4 true ∧ Reads (.andAbsY a) (.absoluteY a) s (fun m => loadA s (s.a &&& m)) ∧
    Row (.andAbsX a) 0x3D .absoluteX 3 4 true ∧ Reads (.andAbsX a) (.absoluteX a) s (fun m => loadA s (s.a &&& m)) ∧
    Row (.oraIndX z) 0x01 .indexedIndirectX 2 6 false ∧ Reads (.oraIndX z) (.indirectX z) s (fun m => loadA s (s.a ||| m)) ∧
    Row (.oraZp z) 0x05 .zeroPage 2 3 false ∧ Reads (.oraZp z) (.zeroPage z) s (fun m => loadA s (s.a ||| m)) ∧
    Row (.oraImm v) 0x09 .immediate 2 2 false ∧ Reads (.oraImm v) (.immediate v) s (fun m => loadA s (s.a ||| m)) ∧
    Row (.oraAbs a) 0x0D .absolute 3 4 false ∧ Reads (.oraAbs a) (.absolute a) s (fun m => loadA s (s.a ||| m)) ∧
    Row (.oraIndY z) 0x11 .indirectIndexedY 2 5 true ∧ Reads (.oraIndY z) (.indirectY z) s (fun m => loadA s (s.a ||| m)) ∧
    Row (.oraZpX z) 0x15 .zeroPageX 2 4 false ∧ Reads (.oraZpX z) (.zeroPageX z) s (fun m => loadA s (s.a ||| m)) ∧
    Row (.oraAbsY a) 0x19 .absoluteY 3 4 true ∧ Reads (.oraAbsY a) (.absoluteY a) s (fun m => loadA s (s.a ||| m)) ∧
    Row (.oraAbsX a) 0x1D .absoluteX 3 4 true ∧ Reads (.oraAbsX a) (.absoluteX a) s (fun m => loadA s (s.a ||| m)) ∧
    Row (.eorIndX z) 0x41 .indexedIndirectX 2 6 false ∧ Reads (.eorIndX z) (.indirectX z) s (fun m => loadA s (s.a ^^^ m)) ∧
    Row (.eorZp z) 0x45 .zeroPage 2 3 false ∧ Reads (.eorZp z) (.zeroPage z) s (fun m => loadA s (s.a ^^^ m)) ∧
    Row (.eorImm v) 0x49 .immediate 2 2 false ∧ Reads (.eorImm v) (.immediate v) s (fun m => loadA s (s.a ^^^ m)) ∧
    Row (.eorAbs a) 0x4D .absolute 3 4 false ∧ Reads (.eorAbs a) (.absolute a) s (fun m => loadA s (s.a ^^^ m)) ∧
    Row (.eorIndY z) 0x51 .indirectIndexedY 2 5 true ∧ Reads (.eorIndY z) (.indirectY z) s (fun m => loadA s (s.a ^^^ m)) ∧
    Row (.eorZpX z) 0x55 .zeroPageX 2 4 false ∧ Reads (.eorZpX z) (.zeroPageX z) s (fun m => loadA s (s.a ^^^ m)) ∧
    Row (.eorAbsY a) 0x59 .absoluteY 3 4 true ∧ Reads (.eorAbsY a) (.absoluteY a) s (fun m => loadA s (s.a ^^^ m)) ∧
    Row (.eorAbsX a) 0x5D .absoluteX 3 4 true ∧ Reads (.eorAbsX a) (.absoluteX a) s (fun m => loadA s (s.a ^^^ m))

/-- CMP, CPX and CPY, every form: Z, C and N of the unsigned comparison, V and the registers unchanged; BIT, both forms:
Z from A and M, N and V from bits 7 and 6 of M, A and C unchanged (42 R175 to R178). -/
def Obligations.CompareAndBitSetFlags : Prop :=
  ∀ (s : State) (v z : Byte) (a : Word),
    Row (.cmpIndX z) 0xC1 .indexedIndirectX 2 6 false ∧ Reads (.cmpIndX z) (.indirectX z) s (fun m => withP s (comparison s.a m s.p)) ∧
    Row (.cmpZp z) 0xC5 .zeroPage 2 3 false ∧ Reads (.cmpZp z) (.zeroPage z) s (fun m => withP s (comparison s.a m s.p)) ∧
    Row (.cmpImm v) 0xC9 .immediate 2 2 false ∧ Reads (.cmpImm v) (.immediate v) s (fun m => withP s (comparison s.a m s.p)) ∧
    Row (.cmpAbs a) 0xCD .absolute 3 4 false ∧ Reads (.cmpAbs a) (.absolute a) s (fun m => withP s (comparison s.a m s.p)) ∧
    Row (.cmpIndY z) 0xD1 .indirectIndexedY 2 5 true ∧ Reads (.cmpIndY z) (.indirectY z) s (fun m => withP s (comparison s.a m s.p)) ∧
    Row (.cmpZpX z) 0xD5 .zeroPageX 2 4 false ∧ Reads (.cmpZpX z) (.zeroPageX z) s (fun m => withP s (comparison s.a m s.p)) ∧
    Row (.cmpAbsY a) 0xD9 .absoluteY 3 4 true ∧ Reads (.cmpAbsY a) (.absoluteY a) s (fun m => withP s (comparison s.a m s.p)) ∧
    Row (.cmpAbsX a) 0xDD .absoluteX 3 4 true ∧ Reads (.cmpAbsX a) (.absoluteX a) s (fun m => withP s (comparison s.a m s.p)) ∧
    Row (.cpxImm v) 0xE0 .immediate 2 2 false ∧ Reads (.cpxImm v) (.immediate v) s (fun m => withP s (comparison s.x m s.p)) ∧
    Row (.cpxZp z) 0xE4 .zeroPage 2 3 false ∧ Reads (.cpxZp z) (.zeroPage z) s (fun m => withP s (comparison s.x m s.p)) ∧
    Row (.cpxAbs a) 0xEC .absolute 3 4 false ∧ Reads (.cpxAbs a) (.absolute a) s (fun m => withP s (comparison s.x m s.p)) ∧
    Row (.cpyImm v) 0xC0 .immediate 2 2 false ∧ Reads (.cpyImm v) (.immediate v) s (fun m => withP s (comparison s.y m s.p)) ∧
    Row (.cpyZp z) 0xC4 .zeroPage 2 3 false ∧ Reads (.cpyZp z) (.zeroPage z) s (fun m => withP s (comparison s.y m s.p)) ∧
    Row (.cpyAbs a) 0xCC .absolute 3 4 false ∧ Reads (.cpyAbs a) (.absolute a) s (fun m => withP s (comparison s.y m s.p)) ∧
    Row (.bitZp z) 0x24 .zeroPage 2 3 false ∧ Reads (.bitZp z) (.zeroPage z) s (bitTested s) ∧
    Row (.bitAbs a) 0x2C .absolute 3 4 false ∧ Reads (.bitAbs a) (.absolute a) s (bitTested s)

/-- INC and DEC, every form: one read and one write of one byte, plus or minus 1 with 8-bit wrap; Z and N follow it,
C and V stay (42 R179, R180). -/
def Obligations.IncDecModifyMemory : Prop :=
  ∀ (s : State) (z : Byte) (a : Word), s.Inv →
    Row (.incZp z) 0xE6 .zeroPage 2 5 false ∧ Modifies (.incZp z) (.zeroPage z) s (fun m => byte (m.toNat + 1)) (fun m => zn (byte (m.toNat + 1)) s.p) ∧
    Row (.incAbs a) 0xEE .absolute 3 6 false ∧ Modifies (.incAbs a) (.absolute a) s (fun m => byte (m.toNat + 1)) (fun m => zn (byte (m.toNat + 1)) s.p) ∧
    Row (.incZpX z) 0xF6 .zeroPageX 2 6 false ∧ Modifies (.incZpX z) (.zeroPageX z) s (fun m => byte (m.toNat + 1)) (fun m => zn (byte (m.toNat + 1)) s.p) ∧
    Row (.incAbsX a) 0xFE .absoluteX 3 7 false ∧ Modifies (.incAbsX a) (.absoluteX a) s (fun m => byte (m.toNat + 1)) (fun m => zn (byte (m.toNat + 1)) s.p) ∧
    Row (.decZp z) 0xC6 .zeroPage 2 5 false ∧ Modifies (.decZp z) (.zeroPage z) s (fun m => byte (m.toNat + 255)) (fun m => zn (byte (m.toNat + 255)) s.p) ∧
    Row (.decAbs a) 0xCE .absolute 3 6 false ∧ Modifies (.decAbs a) (.absolute a) s (fun m => byte (m.toNat + 255)) (fun m => zn (byte (m.toNat + 255)) s.p) ∧
    Row (.decZpX z) 0xD6 .zeroPageX 2 6 false ∧ Modifies (.decZpX z) (.zeroPageX z) s (fun m => byte (m.toNat + 255)) (fun m => zn (byte (m.toNat + 255)) s.p) ∧
    Row (.decAbsX a) 0xDE .absoluteX 3 7 false ∧ Modifies (.decAbsX a) (.absoluteX a) s (fun m => byte (m.toNat + 255)) (fun m => zn (byte (m.toNat + 255)) s.p)

/-- INX, INY, DEX and DEY: X or Y plus or minus 1 with 8-bit wrap; Z and N follow it; nothing else changes
(42 R181 to R184). -/
def Obligations.IndexRegistersCount : Prop :=
  ∀ s : State,
    Row .inx 0xE8 .implied 1 2 false ∧
    exec .inx s = .next { s with x := byte (s.x.toNat + 1), p := zn (byte (s.x.toNat + 1)) s.p } ∧
    Row .iny 0xC8 .implied 1 2 false ∧
    exec .iny s = .next { s with y := byte (s.y.toNat + 1), p := zn (byte (s.y.toNat + 1)) s.p } ∧
    Row .dex 0xCA .implied 1 2 false ∧
    exec .dex s = .next { s with x := byte (s.x.toNat + 255), p := zn (byte (s.x.toNat + 255)) s.p } ∧
    Row .dey 0x88 .implied 1 2 false ∧
    exec .dey s = .next { s with y := byte (s.y.toNat + 255), p := zn (byte (s.y.toNat + 255)) s.p }

/-! ### Shifts and rotates -/

/-- ASL, LSR, ROL and ROR, every form: C is the bit shifted off, Z and N follow the result, V, D and I stay. The
accumulator forms change nothing else; the memory forms make one read and one write of one byte (43 R190 to R193). -/
def Obligations.ShiftsAndRotates : Prop :=
  ∀ (s : State) (z : Byte) (a : Word), s.Inv →
    Row .aslAcc 0x0A .accumulator 1 2 false ∧ ModifiesA .aslAcc s aslByte (leftFlags aslByte s.p) ∧
    Row .lsrAcc 0x4A .accumulator 1 2 false ∧ ModifiesA .lsrAcc s lsrByte (rightFlags lsrByte s.p) ∧
    Row .rolAcc 0x2A .accumulator 1 2 false ∧
    ModifiesA .rolAcc s (rolByte s.p.c) (leftFlags (rolByte s.p.c) s.p) ∧
    Row .rorAcc 0x6A .accumulator 1 2 false ∧
    ModifiesA .rorAcc s (rorByte s.p.c) (rightFlags (rorByte s.p.c) s.p) ∧
    Row (.aslZp z) 0x06 .zeroPage 2 5 false ∧ Modifies (.aslZp z) (.zeroPage z) s aslByte (leftFlags aslByte s.p) ∧
    Row (.aslAbs a) 0x0E .absolute 3 6 false ∧ Modifies (.aslAbs a) (.absolute a) s aslByte (leftFlags aslByte s.p) ∧
    Row (.aslZpX z) 0x16 .zeroPageX 2 6 false ∧ Modifies (.aslZpX z) (.zeroPageX z) s aslByte (leftFlags aslByte s.p) ∧
    Row (.aslAbsX a) 0x1E .absoluteX 3 7 false ∧ Modifies (.aslAbsX a) (.absoluteX a) s aslByte (leftFlags aslByte s.p) ∧
    Row (.lsrZp z) 0x46 .zeroPage 2 5 false ∧ Modifies (.lsrZp z) (.zeroPage z) s lsrByte (rightFlags lsrByte s.p) ∧
    Row (.lsrAbs a) 0x4E .absolute 3 6 false ∧ Modifies (.lsrAbs a) (.absolute a) s lsrByte (rightFlags lsrByte s.p) ∧
    Row (.lsrZpX z) 0x56 .zeroPageX 2 6 false ∧ Modifies (.lsrZpX z) (.zeroPageX z) s lsrByte (rightFlags lsrByte s.p) ∧
    Row (.lsrAbsX a) 0x5E .absoluteX 3 7 false ∧ Modifies (.lsrAbsX a) (.absoluteX a) s lsrByte (rightFlags lsrByte s.p) ∧
    Row (.rolZp z) 0x26 .zeroPage 2 5 false ∧ Modifies (.rolZp z) (.zeroPage z) s (rolByte s.p.c) (leftFlags (rolByte s.p.c) s.p) ∧
    Row (.rolAbs a) 0x2E .absolute 3 6 false ∧ Modifies (.rolAbs a) (.absolute a) s (rolByte s.p.c) (leftFlags (rolByte s.p.c) s.p) ∧
    Row (.rolZpX z) 0x36 .zeroPageX 2 6 false ∧ Modifies (.rolZpX z) (.zeroPageX z) s (rolByte s.p.c) (leftFlags (rolByte s.p.c) s.p) ∧
    Row (.rolAbsX a) 0x3E .absoluteX 3 7 false ∧ Modifies (.rolAbsX a) (.absoluteX a) s (rolByte s.p.c) (leftFlags (rolByte s.p.c) s.p) ∧
    Row (.rorZp z) 0x66 .zeroPage 2 5 false ∧ Modifies (.rorZp z) (.zeroPage z) s (rorByte s.p.c) (rightFlags (rorByte s.p.c) s.p) ∧
    Row (.rorAbs a) 0x6E .absolute 3 6 false ∧ Modifies (.rorAbs a) (.absolute a) s (rorByte s.p.c) (rightFlags (rorByte s.p.c) s.p) ∧
    Row (.rorZpX z) 0x76 .zeroPageX 2 6 false ∧ Modifies (.rorZpX z) (.zeroPageX z) s (rorByte s.p.c) (rightFlags (rorByte s.p.c) s.p) ∧
    Row (.rorAbsX a) 0x7E .absoluteX 3 7 false ∧ Modifies (.rorAbsX a) (.absoluteX a) s (rorByte s.p.c) (rightFlags (rorByte s.p.c) s.p)

/-- The effective address of every mode, its zero-page and 16-bit wraps, and the modes that detect a page cross
(40 R126, R128 to R135, R137, R139). -/
def Obligations.OperandsAreLocated : Prop :=
  ∀ (o : Operand) (s : State), locate o s = (place o s, { s with pageCrossed := crossed o s })

/-! ### Branches, jumps, calls and returns -/

/-- The eight branches, taken and not taken (44 R195 to R203). -/
def Obligations.BranchesFollowTheirFlag : Prop :=
  ∀ (s : State) (off : Int), -128 ≤ off → off ≤ 127 →
    Row (.bpl off) 0x10 .relative 2 2 false ∧ Branches (.bpl off) off (s.p.n = false) s ∧
    Row (.bmi off) 0x30 .relative 2 2 false ∧ Branches (.bmi off) off (s.p.n = true) s ∧
    Row (.bvc off) 0x50 .relative 2 2 false ∧ Branches (.bvc off) off (s.p.v = false) s ∧
    Row (.bvs off) 0x70 .relative 2 2 false ∧ Branches (.bvs off) off (s.p.v = true) s ∧
    Row (.bcc off) 0x90 .relative 2 2 false ∧ Branches (.bcc off) off (s.p.c = false) s ∧
    Row (.bcs off) 0xB0 .relative 2 2 false ∧ Branches (.bcs off) off (s.p.c = true) s ∧
    Row (.bne off) 0xD0 .relative 2 2 false ∧ Branches (.bne off) off (s.p.z = false) s ∧
    Row (.beq off) 0xF0 .relative 2 2 false ∧ Branches (.beq off) off (s.p.z = true) s

/-- JMP, absolute and through a pointer; the pointer's high byte comes from its own page (44 R204, 40 R136). -/
def Obligations.JmpLoadsPc : Prop :=
  ∀ (s : State) (a : Word),
    Row (.jmpAbs a) 0x4C .absolute 3 3 false ∧ exec (.jmpAbs a) s = .next { s with pc := a } ∧
    Row (.jmpInd a) 0x6C .indirect 3 5 false ∧
    ∃ lo hi t, lo = memRead a s ∧
      hi = memRead (address (if a.toNat % 256 = 255 then a.toNat - 255 else a.toNat + 1)) lo.2 ∧
      t = { hi.2 with pc := fromBytes lo.1 hi.1 } ∧ exec (.jmpInd a) s = .next t ∧
      registers t = { registers s with pc := t.pc } ∧ kept t = kept s ∧ KeepsMemory s t

/-- JSR stacks the address of its last byte, high byte first, and jumps; RTS pulls an address and goes to the next one
(44 R205, R206). PC is the address of the next instruction when the meaning starts. -/
def Obligations.JsrAndRtsUseTheStack : Prop :=
  ∀ (s : State) (a : Word),
    Row (.jsr a) 0x20 .absolute 3 6 false ∧
    (∃ t, t = { s with
        ram := (s.ram.write (slot s.sp) (byte ((s.pc - 1).toNat / 256))).write (slot (s.sp - 1)) (byte (s.pc - 1).toNat)
        sp := s.sp - 2
        pc := a } ∧ exec (.jsr a) s = .next t ∧
      (s.Inv → t.peek (address (slot s.sp)) = some (byte ((s.pc - 1).toNat / 256)) ∧
        t.peek (address (slot (s.sp - 1))) = some (byte (s.pc - 1).toNat) ∧ KeepsAllButStack 2 s t)) ∧
    Row .rts 0x60 .implied 1 6 false ∧
    exec .rts s = .next { s with
      sp := s.sp + 2
      pc := fromBytes (s.ram.read (slot (s.sp + 1))) (s.ram.read (slot (s.sp + 2))) + 1 }

/-- A JSR and the RTS that answers it come back to the instruction after the JSR with S as before, and PHA with PLA,
PHP with PLP give back A, and every flag (44 R205, R206; 45 R210 to R213; 10 R36). -/
def Obligations.PushesAndPullsAreInverse : Prop :=
  ∀ (s : State) (a : Word), s.Inv →
    (∃ t u, exec (.jsr a) s = .next t ∧ t.pc = a ∧ exec .rts t = .next u ∧ registers u = registers s ∧
      KeepsAllButStack 2 s u) ∧
    (∃ t u, exec .pha s = .next t ∧ exec .pla { t with a := 0 } = .next u ∧
      registers u = { registers s with p := zn s.a s.p } ∧ KeepsAllButStack 1 s u) ∧
    (∃ t u, exec .php s = .next t ∧ exec .plp { t with p := pulledFlags 0 } = .next u ∧
      registers u = registers s ∧ KeepsAllButStack 1 s u)

/-! ### Stack, flag and no-operation instructions -/

/-- PHA and PHP push A, and P with bits 4 and 5 set, and change no flag; PLA pulls A and sets Z and N; PLP pulls every
stored flag, bits 5 and 4 ignored (45 R210 to R213). -/
def Obligations.StackInstructionsPushAndPull : Prop :=
  ∀ s : State,
    Row .pha 0x48 .implied 1 3 false ∧ Pushes .pha s s.a ∧
    Row .php 0x08 .implied 1 3 false ∧ Pushes .php s (statusByte s.p true) ∧
    Row .pla 0x68 .implied 1 4 false ∧
    exec .pla s = .next { s with
      sp := s.sp + 1
      a := s.ram.read (slot (s.sp + 1))
      p := zn (s.ram.read (slot (s.sp + 1))) s.p } ∧
    Row .plp 0x28 .implied 1 4 false ∧
    exec .plp s = .next { s with
      sp := s.sp + 1
      p := pulledFlags (s.ram.read (slot (s.sp + 1))) }

/-- The seven flag instructions write their one flag and NOP nothing (45 R214 to R221). -/
def Obligations.FlagInstructionsAndNop : Prop :=
  ∀ s : State,
    Row .clc 0x18 .implied 1 2 false ∧ exec .clc s = .next { s with p := { s.p with c := false } } ∧
    Row .cld 0xD8 .implied 1 2 false ∧ exec .cld s = .next { s with p := { s.p with d := false } } ∧
    Row .cli 0x58 .implied 1 2 false ∧ exec .cli s = .next { s with p := { s.p with i := false } } ∧
    Row .clv 0xB8 .implied 1 2 false ∧ exec .clv s = .next { s with p := { s.p with v := false } } ∧
    Row .sec 0x38 .implied 1 2 false ∧ exec .sec s = .next { s with p := { s.p with c := true } } ∧
    Row .sed 0xF8 .implied 1 2 false ∧ exec .sed s = .next { s with p := { s.p with d := true } } ∧
    Row .sei 0x78 .implied 1 2 false ∧ exec .sei s = .next { s with p := { s.p with i := true } } ∧
    Row .nop 0xEA .implied 1 2 false ∧ exec .nop s = .next s

/-- Of all 151 instructions, only those that the register's or flag's rule names can change it
(10 R21 to R24, R27 to R30, R33, R34). -/
def Obligations.OnlyNamedInstructionsWrite : Prop :=
  ∀ (i : Instr) (s t : State), exec i s = .next t → ∃ m, mnemonicOf i = some m ∧
    (t.a ≠ s.a → m ∈ [Mnemonic.lda, .pla, .txa, .tya, .adc, .sbc, .and, .ora, .eor, .asl, .lsr, .rol, .ror]) ∧
    (t.x ≠ s.x → m ∈ [Mnemonic.ldx, .tax, .tsx, .inx, .dex]) ∧
    (t.y ≠ s.y → m ∈ [Mnemonic.ldy, .tay, .iny, .dey]) ∧
    (t.sp ≠ s.sp → m ∈ [Mnemonic.txs, .pha, .php, .pla, .plp, .jsr, .rts, .rti, .brk]) ∧
    (t.p.c ≠ s.p.c → m ∈ [Mnemonic.adc, .sbc, .cmp, .cpx, .cpy, .asl, .lsr, .rol, .ror, .clc, .sec, .plp, .rti]) ∧
    (t.p.i ≠ s.p.i → m ∈ [Mnemonic.sei, .cli, .brk, .plp, .rti]) ∧
    (t.p.d ≠ s.p.d → m ∈ [Mnemonic.sed, .cld, .plp, .rti]) ∧
    (t.p.v ≠ s.p.v → m ∈ [Mnemonic.adc, .sbc, .bit, .clv, .plp, .rti]) ∧
    (t.p.z ≠ s.p.z ∨ t.p.n ≠ s.p.n → m ∉ [Mnemonic.sta, .stx, .sty, .txs, .bpl, .bmi, .bvc, .bvs, .bcc, .bcs, .bne,
      .beq, .jmp, .jsr, .rts, .pha, .php, .clc, .cld, .cli, .clv, .sec, .sed, .sei, .nop, .brk])

/-! ### The CPU bus -/

/-- `MemRead` and `MemWrite` by range: every address reads and writes exactly one device (20 R54 to R61, R85;
60 R274, R275). -/
def Obligations.BusDecodesEveryAddress : Prop :=
  ∀ (a : Word) (v : Byte) (s : State),
    (a.toNat < 0x2000 → memRead a s = (s.ram.read (a.toNat % 0x800), s)) ∧
    (∀ r, Selects r a → memRead a s = ppuReadReg (PpuReg.ofSelect r) s) ∧
    ((a.toNat = 0x4014 ∨ (0x4000 ≤ a.toNat ∧ a.toNat ≤ 0x4013) ∨ a.toNat = 0x4015 ∨
        (0x4018 ≤ a.toNat ∧ a.toNat < 0x6000) ∨
        (0x6000 ≤ a.toNat ∧ a.toNat < 0x8000 ∧ s.cart.hasPrgRam = false)) →
      memRead a s = (Config.draw s.draws, { s with draws := s.draws + 1 })) ∧
    (a.toNat = 0x4016 → ∃ t, memRead a s = t ∧ t.1 &&& 0xFE = Config.draw s.draws &&& 0xFE ∧
      t.2 = { s with pads := s.pads.read1.2, draws := s.draws + 1 } ∧ t.1.getLsbD 0 = s.pads.read1.1) ∧
    (a.toNat = 0x4017 → ∃ t, memRead a s = t ∧ t.1 &&& 0xFE = Config.draw s.draws &&& 0xFE ∧
      t.2 = { s with pads := s.pads.read2.2, draws := s.draws + 1 } ∧ t.1.getLsbD 0 = s.pads.read2.1) ∧
    (0x6000 ≤ a.toNat → a.toNat < 0x8000 → s.cart.hasPrgRam = true →
      memRead a s = (s.cart.prgRam.read (a.toNat - 0x6000), s)) ∧
    (0x8000 ≤ a.toNat → memRead a s = (s.cart.read a.toNat, s)) ∧
    (a.toNat < 0x2000 → memWrite a v s = { s with ram := s.ram.write (a.toNat % 0x800) v }) ∧
    (∀ r, Selects r a → memWrite a v s = ppuWriteReg (PpuReg.ofSelect r) v s) ∧
    (a.toNat = 0x4014 → memWrite a v s = oamDma v s) ∧
    (a.toNat = 0x4016 → memWrite a v s = { s with pads := s.pads.writeStrobe v }) ∧
    ((0x4000 ≤ a.toNat ∧ a.toNat ≤ 0x4013) ∨ a.toNat = 0x4015 ∨ a.toNat = 0x4017 ∨
        (0x4018 ≤ a.toNat ∧ a.toNat < 0x6000) ∨
        (0x6000 ≤ a.toNat ∧ a.toNat < 0x8000 ∧ s.cart.hasPrgRam = false) → memWrite a v s = s) ∧
    (0x6000 ≤ a.toNat → a.toNat < 0x8000 → s.cart.hasPrgRam = true →
      memWrite a v s = { s with cart := { s.cart with prgRam := s.cart.prgRam.write (a.toNat - 0x6000) v } }) ∧
    (0x8000 ≤ a.toNat → memWrite a v s = { s with cart := s.cart.write a.toNat v })

/-- The byte written to RAM is read back at each of its four mirrors, by a read with no effect, and every byte that is
not a mirror of it reads as before (20 R53, R56, R67). -/
def Obligations.RamReadsBackAtEveryMirror : Prop :=
  ∀ (a b : Word) (v : Byte) (s : State), s.Inv → a.toNat < 0x2000 → b.toNat < 0x2000 →
    memRead b (memWrite a v s) =
      (if a.toNat % 0x800 = b.toNat % 0x800 then v else (memRead b s).1, memWrite a v s)

/-- Outside the PPU window and 0x4016–0x4017 a read has no side effect on any device; the draws are the model's (log 1)
(20 R53). A read never changes memory, a CPU register, the cartridge or the NMI latch. -/
def Obligations.ReadsHaveOnlyTheirSideEffects : Prop :=
  ∀ (a : Word) (s : State),
    registers (memRead a s).2 = registers s ∧ kept (memRead a s).2 = kept s ∧ (memRead a s).2.ram = s.ram ∧
    (memRead a s).2.cart = s.cart ∧ (memRead a s).2.nmiPending = s.nmiPending ∧ KeepsMemory s (memRead a s).2 ∧
    (¬ (0x2000 ≤ a.toNat ∧ a.toNat < 0x4000) → (memRead a s).2.ppu = s.ppu) ∧
    (a.toNat ≠ 0x4016 → a.toNat ≠ 0x4017 → (memRead a s).2.pads = s.pads)

/-- A write of 0x4014 copies the page, byte by byte from the current OAM address with wrap, attribute bytes masked,
and leaves the OAM address as it was; the stall is added; no other state changes (20 R62, R63, R66). -/
def Obligations.OamDmaCopiesThePage : Prop :=
  ∀ (s : State) (pageNo : Byte), s.Inv → ∃ t, memWrite 0x4014 pageNo s = t ∧
    (∀ i < 256, t.ppu.oam.read ((s.ppu.oamAddr.toNat + i) % 256) =
      attributeMasked (s.ppu.oamAddr.toNat + i) (dmaSource s pageNo i)) ∧
    t.dmaStall = s.dmaStall + dmaStallOf s ∧
    t = { s with
      ppu := { s.ppu with oam := t.ppu.oam }
      dmaStall := t.dmaStall
      draws := t.draws }

/-! ### The cartridge -/

/-- NROM: reads wrap modulo PRG_SIZE, writes to ROM are ignored, CHR is written only when it is RAM, the mirroring is
the header's; every mapper number but 1 is NROM (20 R72 to R76). -/
def Obligations.NromIsFixed : Prop :=
  ∀ (c : Cartridge) (a : Nat) (v : Byte), c.mapper ≠ 1 →
    c.kind = .nrom ∧
    (0x8000 ≤ a → a ≤ 0xFFFF → c.read a = c.prg.read ((a - 0x8000) % (c.prgBanks * 16384))) ∧
    (0x8000 ≤ a → a ≤ 0xFFFF → c.write a v = c) ∧
    (a ≤ 0x1FFF → c.readChr a = c.chr.read a) ∧
    (a ≤ 0x1FFF → c.writeChr a v = if c.chrBanks = 0 then { c with chr := c.chr.write a v } else c) ∧
    c.mirroring = if c.verticalMirroring then .vertical else .horizontal

/-- MMC1's serial port: from an empty shift register, five writes with bit 7 clear load their bits 0, least significant
first, into the register that bits 14:13 of the fifth address choose, and empty the shift register; a write with bit 7
set empties it and sets PRG mode 3, whatever was shifted in before (20 R78, R79). -/
def Obligations.Mmc1SerialPortLoads : Prop :=
  ∀ (m : Mmc1) (a0 a1 a2 a3 a4 : Nat) (v0 v1 v2 v3 v4 r : Byte) (a : Nat),
    (r.getLsbD 7 = true → m.serialWrite a r =
      { m with shiftValue := 0, shiftCount := 0, control := m.control ||| 0x0C }) ∧
    (m.shiftCount = 0 → (∀ v ∈ [v0, v1, v2, v3, v4], v.getLsbD 7 = false) →
      ∃ value : BitVec 5, value.toNat = v0.toNat % 2 + 2 * (v1.toNat % 2) + 4 * (v2.toNat % 2) + 8 * (v3.toNat % 2) +
          16 * (v4.toNat % 2) ∧
        serialWrites [(a0, v0), (a1, v1), (a2, v2), (a3, v3), (a4, v4)] m =
          { m with
            shiftValue := 0
            shiftCount := 0
            control := if a4 / 0x2000 % 4 = 0 then value else m.control
            chrBank0 := if a4 / 0x2000 % 4 = 1 then value else m.chrBank0
            chrBank1 := if a4 / 0x2000 % 4 = 2 then value else m.chrBank1
            prgBank := if a4 / 0x2000 % 4 = 3 then value else m.prgBank })

/-- MMC1's PRG and CHR banks and its mirroring, for every mode of its control register (20 R80 to R84). -/
def Obligations.Mmc1BanksFollowItsRegisters : Prop :=
  ∀ (c : Cartridge) (a : Nat), c.mapper = 1 → c.Inv →
    (0x8000 ≤ a → a ≤ 0xFFFF → c.read a = c.prg.read (
      match c.mmc1.control.toNat / 4 % 4 with
      | 2 => (if a < 0xC000 then 0 else c.mmc1.prgBank.toNat % 16) % c.prgBanks * 0x4000 + a % 0x4000
      | 3 => (if a < 0xC000 then c.mmc1.prgBank.toNat % 16 else c.prgBanks - 1) % c.prgBanks * 0x4000 + a % 0x4000
      | _ => (c.mmc1.prgBank.toNat / 2 % 8 * 0x8000 + a % 0x8000) % (c.prgBanks * 16384))) ∧
    (a ≤ 0x1FFF → ∃ off, off < c.chrSize ∧ c.readChr a = c.chr.read off ∧
      off = (if c.mmc1.control.toNat < 16 then c.mmc1.chrBank0.toNat / 2 * 0x2000 + a
        else (if a < 0x1000 then c.mmc1.chrBank0.toNat else c.mmc1.chrBank1.toNat) * 0x1000 + a % 0x1000) % c.chrSize ∧
      ∀ v, c.writeChr a v = if c.chrBanks = 0 then { c with chr := c.chr.write off v } else c) ∧
    c.mirroring = [Mirroring.oneScreenLower, .oneScreenUpper, .vertical, .horizontal].getD
      (c.mmc1.control.toNat % 4) .horizontal

/-- No step changes PRG ROM, CHR ROM or what the header configured (20 R70). -/
def Obligations.RomNeverChanges : Prop :=
  ∀ s t : State, step s = .next t →
    t.cart.prg = s.cart.prg ∧ (0 < s.cart.chrBanks → t.cart.chr = s.cart.chr) ∧
    t.cart.mapper = s.cart.mapper ∧ t.cart.prgBanks = s.cart.prgBanks ∧ t.cart.chrBanks = s.cart.chrBanks ∧
    t.cart.hasPrgRam = s.cart.hasPrgRam ∧ t.cart.verticalMirroring = s.cart.verticalMirroring

/-- An iNES file without the magic, too short, or with no PRG bank is refused; any other gives the power-on state of
its header's fields and its PRG and CHR bytes after the trainer, and that state meets the invariant
(20 R86, R87; 70 R300). -/
def Obligations.LoadReadsTheHeader : Prop :=
  ∀ (file : List Byte) (o : OpenValues) (stall : OamDmaStall),
    let f := fun k => (file.getD k 0).toNat
    let start := 16 + if (f 6).testBit 2 then 512 else 0
    let good := file.take 4 = [0x4E, 0x45, 0x53, 0x1A] ∧ 16 ≤ file.length ∧
      start + f 4 * 16384 + f 5 * 8192 ≤ file.length ∧ f 4 ≠ 0
    (¬ good → ∃ e, State.load file o stall = .error e) ∧
    (good → ∃ s c, State.load file o stall = .ok s ∧ s = State.powerOn c o stall ∧
      c.prgBanks = f 4 ∧ c.chrBanks = f 5 ∧ c.verticalMirroring = (f 6).testBit 0 ∧ c.hasPrgRam = (f 6).testBit 1 ∧
      c.mapper.toNat = f 7 / 16 * 16 + f 6 / 16 ∧
      (∀ k < f 4 * 16384, s.cart.prg.read k = file.getD (start + k) 0) ∧
      (∀ k < f 5 * 8192, s.cart.chr.read k = file.getD (start + f 4 * 16384 + k) 0) ∧
      (OpenMemoriesFit o → s.Inv))

/-! ### The PPU -/

/-- The PPU's memory map: pattern tables, the nametables through the mirroring table, and the palette with its
aliases. A write changes the one VRAM or palette byte that its address names, the palette byte cut to 6 bits, and that
byte alone: every other byte of VRAM and palette and the rest of the state stay (20 R88 to R92). -/
def Obligations.PpuMemoryMap : Prop :=
  ∀ (a : Word) (v : Byte) (s : State), s.Inv →
    let k := a.toNat % 0x4000
    (k < 0x2000 → ppuRead a s = s.cart.readChr k ∧ ppuWrite a v s = { s with cart := s.cart.writeChr k v }) ∧
    (0x2000 ≤ k → k < 0x3F00 →
      let off := (mirrorRow s.cart.mirroring).getD (k / 0x400 % 4) 0 * 0x400 + k % 0x400
      ∃ t, ppuWrite a v s = t ∧ off < 2048 ∧ ppuRead a s = s.ppu.vram.read off ∧ ppuRead a t = v ∧
        (∀ j, t.ppu.vram.read j = if j = off then v else s.ppu.vram.read j) ∧
        t = { s with ppu := { s.ppu with vram := t.ppu.vram } }) ∧
    (0x3F00 ≤ k →
      ∃ t, ppuWrite a v s = t ∧ paletteEntry k < 32 ∧ ppuRead a s = s.ppu.palette.read (paletteEntry k) ∧
        (ppuRead a s).toNat < 64 ∧ ppuRead a t = byte (v.toNat % 64) ∧
        (∀ j, t.ppu.palette.read j = if j = paletteEntry k then byte (v.toNat % 64) else s.ppu.palette.read j) ∧
        t = { s with ppu := { s.ppu with palette := t.ppu.palette } })

/-- A write of $2000 sets ctrl and the nametable bits of t; it requests an NMI exactly when it raises NMI enable while
vblank is set (60 R234, R247, R248). -/
def Obligations.CtrlWriteCanRaiseNmi : Prop :=
  ∀ (a : Word) (v : Byte) (s : State), s.Inv → Selects 0 a →
    memWrite a v s = { s with
      nmiPending := s.nmiPending || (s.ppu.vblank && v.getLsbD 7 && !s.ppu.ctrl.getLsbD 7)
      ppu := { refreshed v s.ppu with
        ctrl := v
        t := (s.ppu.t &&& 0x73FF) ||| BitVec.ofNat 15 (v.toNat % 4 * 1024)
        nmiOut := s.ppu.vblank && v.getLsbD 7 } }

/-- A read of $2002 gives the status bits over the low open-bus bits, clears vblank and the toggle, refreshes bits
7 to 5, and lowers the NMI output without touching the latch (60 R251). -/
def Obligations.StatusReadClearsVblank : Prop :=
  ∀ (a : Word) (s : State), s.Inv → Selects 2 a → ∃ r t, memRead a s = (r, t) ∧
    r.toNat = 128 * s.ppu.vblank.toNat + 64 * s.ppu.sprite0Hit.toNat + 32 * s.ppu.spriteOverflow.toNat +
      s.ppu.ob.toNat % 32 ∧
    t = { s with ppu := { s.ppu with
      vblank := false
      w := false
      ob := r
      obTimers := s.ppu.obTimers.take 5 ++ [0, 0, 0]
      nmiOut := false } }

/-- Writes of $2001, $2002 and $2003, reads of the five registers that give the open bus, and $2004: a write stores at
the OAM address, attribute bytes masked, and increments it with 8-bit wrap; a read gives the byte, refreshes the latch
and leaves the address (60 R247, R249, R250, R252, R253). -/
def Obligations.OamAndSimpleRegisters : Prop :=
  ∀ (a : Word) (v : Byte) (s : State), s.Inv →
    (Selects 1 a → memWrite a v s = { s with ppu := { refreshed v s.ppu with mask := v } }) ∧
    (Selects 2 a → memWrite a v s = { s with ppu := refreshed v s.ppu }) ∧
    (Selects 3 a → memWrite a v s = { s with ppu := { refreshed v s.ppu with oamAddr := v } }) ∧
    (∀ r ∈ [0, 1, 3, 5, 6], Selects r a → memRead a s = (s.ppu.ob, s)) ∧
    (Selects 4 a → memWrite a v s = { s with ppu := { refreshed v s.ppu with
      oam := s.ppu.oam.write s.ppu.oamAddr.toNat (attributeMasked s.ppu.oamAddr.toNat v)
      oamAddr := byte (s.ppu.oamAddr.toNat + 1) } }) ∧
    (Selects 4 a → ∃ r, r = attributeMasked s.ppu.oamAddr.toNat (s.ppu.oam.read s.ppu.oamAddr.toNat) ∧
      memRead a s = (r, { s with ppu := refreshed r s.ppu }))

/-- $2005 and $2006 share the toggle w: with w = 0 a write of either is its first write, with w = 1 its second, whichever
register the write before it was to. The first writes set coarse and fine X, or the high byte of t with bit 14 cleared;
the second ones coarse and fine Y, or the low byte of t, which is then copied to v. v changes in no other of them. So two
writes of one register from w = 0 set the whole scroll, or the whole address (60 R254, R255). -/
def Obligations.ScrollAndAddressWrites : Prop :=
  ∀ (a b : Word) (v1 v2 : Byte) (s : State), s.Inv →
    (Selects 5 a → s.ppu.w = false → memWrite a v1 s = { s with ppu := { refreshed v1 s.ppu with
      t := loopy (v1.toNat / 8) (s.ppu.t.toNat / 32 % 32) (s.ppu.t.toNat / 1024 % 4) (s.ppu.t.toNat / 4096)
      fineX := BitVec.ofNat 3 v1.toNat
      w := true } }) ∧
    (Selects 5 a → s.ppu.w = true → memWrite a v1 s = { s with ppu := { refreshed v1 s.ppu with
      t := loopy (s.ppu.t.toNat % 32) (v1.toNat / 8) (s.ppu.t.toNat / 1024 % 4) (v1.toNat % 8)
      w := false } }) ∧
    (Selects 6 a → s.ppu.w = false → memWrite a v1 s = { s with ppu := { refreshed v1 s.ppu with
      t := BitVec.ofNat 15 (v1.toNat % 64 * 256 + s.ppu.t.toNat % 256)
      w := true } }) ∧
    (Selects 6 a → s.ppu.w = true → memWrite a v1 s = { s with ppu := { refreshed v1 s.ppu with
      t := BitVec.ofNat 15 (s.ppu.t.toNat / 256 * 256 + v1.toNat)
      v := BitVec.ofNat 15 (s.ppu.t.toNat / 256 * 256 + v1.toNat)
      w := false } }) ∧
    (s.ppu.w = false → Selects 5 a → Selects 5 b →
      memWrite b v2 (memWrite a v1 s) = { s with ppu := { refreshed v2 s.ppu with
        t := loopy (v1.toNat / 8) (v2.toNat / 8) (s.ppu.t.toNat / 1024 % 4) (v2.toNat % 8)
        fineX := BitVec.ofNat 3 v1.toNat } }) ∧
    (s.ppu.w = false → Selects 6 a → Selects 6 b →
      memWrite b v2 (memWrite a v1 s) = { s with ppu := { refreshed v2 s.ppu with
        t := BitVec.ofNat 15 (v1.toNat % 64 * 256 + v2.toNat)
        v := BitVec.ofNat 15 (v1.toNat % 64 * 256 + v2.toNat) } })

/-- $2007: a read below the palette gives the buffer and refills it; a palette read gives the palette byte at once and
refills the buffer from the nametable under it; a write goes through the PPU's memory map. Each adds 1 or 32 to v with
15-bit wrap (60 R256 to R258). -/
def Obligations.DataPort : Prop :=
  ∀ (a : Word) (v : Byte) (s : State), s.Inv → Selects 7 a →
    let k := address (s.ppu.v.toNat % 0x4000)
    let next := BitVec.ofNat 15 (s.ppu.v.toNat + if s.ppu.ctrl.getLsbD 2 then 32 else 1)
    (k.toNat < 0x3F00 → memRead a s = (s.ppu.readBuffer,
      { s with ppu := { refreshed s.ppu.readBuffer s.ppu with readBuffer := ppuRead k s, v := next } })) ∧
    (0x3F00 ≤ k.toNat → ∃ r, r.toNat = (ppuRead k s).toNat + s.ppu.ob.toNat / 64 * 64 ∧
      memRead a s = (r,
        { s with ppu := { refreshed r s.ppu with readBuffer := ppuRead (k - 0x1000) s, v := next } })) ∧
    memWrite a v s =
      { ppuWrite k v s with ppu := { refreshed v (ppuWrite k v s).ppu with v := next } }

/-- Each bit of the open-bus latch is cleared once its timer reaches its threshold, and not before (60 R262). -/
def Obligations.OpenBusBitsDecay : Prop :=
  ∀ (u : Ppu) (n i : Nat), u.timersInRange = true → u.decayed = true → i < 8 →
    (ticks n u).ob.getLsbD i =
      (u.ob.getLsbD i && decide (u.obTimers.getD i 0 + n <
        [180000, 180000, 180000, 180000, 300000, 600000, 600000, 600000].getD i 0))

/-- The PPU cycle at (241, 1) sets vblank and raises the NMI output to ctrl[7], and sets the NMI latch exactly when that
is a rise; the one at (-1, 1) clears vblank, sprite-0 hit and sprite overflow, lowers the NMI output and leaves the
latch; every other PPU cycle leaves vblank, the NMI output and the latch, and with rendering off the two sprite flags.
So from (-1, 0) with vblank clear, vblank is set
by the 82,524th PPU cycle and stays set to the end of the frame of 89,342 cycles, the latch is set with it when ctrl[7]
is 1 and is left alone when it is 0, and the next frame's second cycle clears vblank (60 R234, R263, R264; 70 R310). -/
def Obligations.VblankIsSetOncePerFrame : Prop :=
  ∀ s : State, s.Inv →
    (s.ppu.scanline = 241 → s.ppu.cycle = 1 →
      (ppuStep s).ppu.vblank = true ∧ (ppuStep s).ppu.nmiOut = s.ppu.ctrl.getLsbD 7 ∧
      (ppuStep s).nmiPending = (s.nmiPending || (s.ppu.ctrl.getLsbD 7 && !s.ppu.vblank))) ∧
    (s.ppu.scanline = -1 → s.ppu.cycle = 1 →
      (ppuStep s).ppu.vblank = false ∧ (ppuStep s).ppu.sprite0Hit = false ∧
      (ppuStep s).ppu.spriteOverflow = false ∧ (ppuStep s).ppu.nmiOut = false ∧
      (ppuStep s).nmiPending = s.nmiPending) ∧
    (¬ (s.ppu.scanline = 241 ∧ s.ppu.cycle = 1) → ¬ (s.ppu.scanline = -1 ∧ s.ppu.cycle = 1) →
      (ppuStep s).ppu.vblank = s.ppu.vblank ∧ (ppuStep s).ppu.nmiOut = s.ppu.nmiOut ∧
      (ppuStep s).nmiPending = s.nmiPending) ∧
    (¬ (s.ppu.scanline = -1 ∧ s.ppu.cycle = 1) → s.ppu.rendering = false →
      (ppuStep s).ppu.sprite0Hit = s.ppu.sprite0Hit ∧ (ppuStep s).ppu.spriteOverflow = s.ppu.spriteOverflow) ∧
    (s.ppu.scanline = -1 → s.ppu.cycle = 0 → s.ppu.vblank = false →
      (∀ n ≤ 89343, (ppuSteps n s).ppu.vblank = decide (82524 ≤ n)) ∧
      (∀ n ≤ 89344, (ppuSteps n s).nmiPending = (s.nmiPending || (s.ppu.ctrl.getLsbD 7 && decide (82524 ≤ n)))) ∧
      (ppuSteps 89344 s).ppu.vblank = false ∧
      (ppuSteps 89342 s).ppu.scanline = -1 ∧ (ppuSteps 89342 s).ppu.cycle = 0)

/-- The PPU cycles owed for a step touch nothing of the CPU, its memory or the cartridge, and no PPU register, read
buffer, toggle, t, OAM, VRAM or palette; they only clear open-bus bits, and only set the NMI latch. With rendering off
they also leave v, the secondary OAM and every pixel (60 R264, R265, R271). -/
def Obligations.PpuStepsTouchOnlyThePpu : Prop :=
  ∀ (n : Nat) (s : State), ∃ t, ppuSteps n s = t ∧
    registers t = registers s ∧ kept t = kept s ∧
    t = { s with
      nmiPending := t.nmiPending
      ppu := { s.ppu with
        vblank := t.ppu.vblank
        sprite0Hit := t.ppu.sprite0Hit
        spriteOverflow := t.ppu.spriteOverflow
        secondary := t.ppu.secondary
        v := t.ppu.v
        ob := t.ppu.ob
        obTimers := t.ppu.obTimers
        scanline := t.ppu.scanline
        cycle := t.ppu.cycle
        nmiOut := t.ppu.nmiOut
        frame := t.ppu.frame } } ∧
    t.ppu.ob &&& s.ppu.ob = t.ppu.ob ∧ (s.nmiPending = true → t.nmiPending = true) ∧
    (s.ppu.rendering = false →
      t.ppu.v = s.ppu.v ∧ t.ppu.secondary = s.ppu.secondary ∧ t.ppu.frame = s.ppu.frame)

/-- Coarse X counts 0 to 31 and toggles the horizontal nametable on its wrap; fine Y counts 0 to 7 and carries into
coarse Y, which wraps at 29 with the vertical nametable toggled and at 31 without (60 R260, R261). -/
def Obligations.ScrollIncrements : Prop :=
  ∀ x < 32, ∀ y < 32, ∀ n < 4, ∀ f < 8,
    incrementHorizontal (loopy x y n f) =
      (if x = 31 then loopy 0 y (n / 2 * 2 + (1 - n % 2)) f else loopy (x + 1) y n f) ∧
    incrementVertical (loopy x y n f) =
      (if f < 7 then loopy x y n (f + 1)
      else if y = 29 then loopy x 0 ((1 - n / 2) * 2 + n % 2) 0
      else if y = 31 then loopy x 0 n 0
      else loopy x (y + 1) n 0)

/-- With rendering on, cycle by cycle and then scanline by scanline. A cycle 1..256 of a visible line draws
`RenderPixel(cycle - 1)` at that cycle's state, before v moves, and every other cycle draws nothing; cycle 65 of a
visible line evaluates the line's sprites, and no other cycle does; v moves by the events of R264 in their order. From a
line's cycle 0 to the next one's: the pre-render line copies t to v and draws nothing; a visible line draws its 256
pixels, each as at its own cycle, and no other, has its own sprites in secondary OAM, carries v down one row and copies
the horizontal bits of t; a line below the picture draws nothing and leaves v (60 R264, R265, R270). -/
def Obligations.RenderingFollowsTheScanline : Prop :=
  ∀ s : State, s.Inv → s.ppu.rendering = true →
    let line := s.ppu.scanline
    let shown := 0 ≤ line ∧ line ≤ 239
    let u := (ppuStep s).ppu
    (shown → 1 ≤ s.ppu.cycle → s.ppu.cycle ≤ 256 →
      u.frame = (renderPixel (s.ppu.cycle - 1) line.toNat s).ppu.frame ∧
      u.sprite0Hit = (renderPixel (s.ppu.cycle - 1) line.toNat s).ppu.sprite0Hit) ∧
    (¬ (shown ∧ 1 ≤ s.ppu.cycle ∧ s.ppu.cycle ≤ 256) → u.frame = s.ppu.frame ∧
      (¬ (line = -1 ∧ s.ppu.cycle = 1) → u.sprite0Hit = s.ppu.sprite0Hit)) ∧
    (shown → s.ppu.cycle = 65 →
      u.secondary = (s.ppu.evaluateSprites line).secondary ∧
      u.spriteOverflow = (s.ppu.evaluateSprites line).spriteOverflow) ∧
    (¬ (shown ∧ s.ppu.cycle = 65) → u.secondary = s.ppu.secondary ∧
      (¬ (line = -1 ∧ s.ppu.cycle = 1) → u.spriteOverflow = s.ppu.spriteOverflow)) ∧
    u.v = (
      if shown ∧ s.ppu.cycle = 256 then incrementVertical (incrementHorizontal s.ppu.v)
      else if shown ∧ s.ppu.cycle < 256 ∧ s.ppu.cycle % 8 = 0 ∧ s.ppu.cycle ≠ 0 then incrementHorizontal s.ppu.v
      else if line ≤ 239 ∧ s.ppu.cycle = 257 then (s.ppu.v &&& 0x7BE0) ||| (s.ppu.t &&& 0x041F)
      else if line = -1 ∧ 280 ≤ s.ppu.cycle ∧ s.ppu.cycle ≤ 304 then (s.ppu.v &&& 0x041F) ||| (s.ppu.t &&& 0x7BE0)
      else s.ppu.v) ∧
    (s.ppu.cycle = 0 → ∃ t, ppuSteps 341 s = t ∧ t.ppu.cycle = 0 ∧
      t.ppu.scanline = (if line = 260 then -1 else line + 1) ∧
      (line = -1 → t.ppu.v = s.ppu.t ∧ t.ppu.frame = s.ppu.frame ∧ t.ppu.secondary = s.ppu.secondary) ∧
      (shown →
        t.ppu.v = (incrementVertical s.ppu.v &&& 0x7BE0) ||| (s.ppu.t &&& 0x041F) ∧
        (∀ px < 256, ∃ colour, ∀ c,
          ((256 * line.toNat + px, c) ∈ t.ppu.frame ↔ c = colour) ∧
          ((256 * line.toNat + px, c) ∈ (renderPixel px line.toNat (ppuSteps (px + 1) s)).ppu.frame ↔ c = colour)) ∧
        (∀ k colour, k / 256 ≠ line.toNat → ((k, colour) ∈ t.ppu.frame ↔ (k, colour) ∈ s.ppu.frame)) ∧
        t.ppu.secondary = (s.ppu.evaluateSprites line).secondary ∧
        t.ppu.spriteOverflow = (s.ppu.evaluateSprites line).spriteOverflow) ∧
      (239 < line → t.ppu.v = s.ppu.v ∧ t.ppu.frame = s.ppu.frame ∧ t.ppu.secondary = s.ppu.secondary))

/-- Sprite evaluation is R267's loop: the first eight sprites in range, and the overflow flag at a ninth. The sprite
pixel of a column is R268's loop over secondary OAM: none where sprites are off or the left columns are clipped, else the
first opaque entry in order, with its flips, its pattern address at 8x8 or 8x16, its palette, priority and index. -/
def Obligations.SpritesFollowTheirLoops : Prop :=
  (∀ (u : Ppu) (line : Int), ∃ r, r = evaluationLoop u line (List.range 64) [] u.spriteOverflow ∧
    u.evaluateSprites line = { u with secondary := r.1, spriteOverflow := r.2 } ∧ r.1.length ≤ 8) ∧
  (∀ (px : Nat) (line : Int) (s : State), spritePixel px line s =
    if s.ppu.mask.getLsbD 4 = false ∨ (px < 8 ∧ s.ppu.mask.getLsbD 2 = false) then none
    else spriteLoop px line s s.ppu.secondary)

/-- The background pixel of a column comes from the tile and the attribute byte that v names, or from the next tile to
the right once fine X carries past this one, with the horizontal nametable toggled at the edge; a layer that is off or
clipped is transparent (60 R266). -/
def Obligations.BackgroundPixelReadsItsTile : Prop :=
  ∀ (s : State) (px x y n f : Nat), x < 32 → y < 32 → n < 4 → f < 8 → s.ppu.v = loopy x y n f →
    (s.ppu.mask.getLsbD 3 = false ∨ (px < 8 ∧ s.ppu.mask.getLsbD 1 = false) → bgPixel px s = ⟨0, 0⟩) ∧
    (s.ppu.mask.getLsbD 3 = true → 8 ≤ px ∨ s.ppu.mask.getLsbD 1 = true →
      let p := px % 8 + s.ppu.fineX.toNat
      let tx := if p < 8 then x else if x < 31 then x + 1 else 0
      let nt := if p < 8 ∨ x < 31 then n else n / 2 * 2 + (1 - n % 2)
      let tile := ppuRead (address (0x2000 + 0x400 * nt + 32 * y + tx)) s
      let row := (if s.ppu.ctrl.getLsbD 4 then 0x1000 else 0) + 16 * tile.toNat + f
      let lo := ppuRead (address row) s
      let hi := ppuRead (address (row + 8)) s
      let attr := ppuRead (address (0x23C0 + 0x400 * nt + 8 * (y / 4) + tx / 4)) s
      (bgPixel px s).pix.toNat = (lo.getLsbD (7 - p % 8)).toNat + 2 * (hi.getLsbD (7 - p % 8)).toNat ∧
      (bgPixel px s).pal.toNat = attr.toNat / 4 ^ (2 * (y / 2 % 2) + tx / 2 % 2) % 4)

/-- A pixel's colour: the backdrop when both layers are transparent, the one opaque layer, or by the sprite's priority
bit; and sprite 0 over an opaque background pixel sets the hit flag, except in column 255. Nothing else changes
(60 R269, R270, R271). -/
def Obligations.PixelsResolveByPriority : Prop :=
  ∀ (px line : Nat) (s : State), ∃ b sp a t, b = bgPixel px s ∧ sp = spritePixel px line s ∧ t = renderPixel px line s ∧
    (sp = none → a = if b.pix = 0 then 0x3F00 else address (0x3F00 + 4 * b.pal.toNat + b.pix.toNat)) ∧
    (∀ p, sp = some p → a = if b.pix = 0 ∨ p.behind = false then address (0x3F10 + 4 * p.pal.toNat + p.pix.toNat)
      else address (0x3F00 + 4 * b.pal.toNat + b.pix.toNat)) ∧
    (t.ppu.sprite0Hit = true ↔ s.ppu.sprite0Hit = true ∨ ∃ p, sp = some p ∧ p.index = 0 ∧ b.pix ≠ 0 ∧
      s.ppu.mask.getLsbD 3 = true ∧ s.ppu.mask.getLsbD 4 = true ∧ px < 255) ∧
    t = { s with ppu := { s.ppu with
      sprite0Hit := t.ppu.sprite0Hit
      frame := s.ppu.frame.set (256 * line + px) (Config.masterPalette
        (BitVec.ofNat 6 (if s.ppu.mask.getLsbD 0 then ppuRead a s &&& 0x30 else ppuRead a s).toNat)
        (BitVec.ofNat 3 (s.ppu.mask.toNat / 32))) } }

/-! ### Controllers, power-on and whole-machine rules -/

/-- A write of 0x4016 sets the strobe of both ports to its bit 0, and at a strobe of 1 loads each shift register from its
buttons. At a strobe of 1 every read of a port gives its A button; after a strobe of 1 and then 0, reads give the eight
buttons from bit 0 on and then 1s, from each port on its own. Port 2 has no buttons in any state of the invariant
(60 R273 to R275). -/
def Obligations.ControllerReadsShiftOutTheButtons : Prop :=
  ∀ (s : State) (v1 v0 : Byte) (n m : Nat), v1.getLsbD 0 = true → v0.getLsbD 0 = false →
    memWrite 0x4016 v0 s = { s with pads := { s.pads with strobe := false } } ∧
    memWrite 0x4016 v1 s = { s with pads := { s.pads with
      strobe := true
      shift1 := s.pads.buttons1
      shift2 := s.pads.buttons2 } } ∧
    padBits 0x4016 n (readPad 0x4017 m (memWrite 0x4016 v1 s)) = List.replicate n (s.pads.buttons1.getLsbD 0) ∧
    padBits 0x4017 n (readPad 0x4016 m (memWrite 0x4016 v1 s)) = List.replicate n (s.pads.buttons2.getLsbD 0) ∧
    padBits 0x4016 n (readPad 0x4017 m (memWrite 0x4016 v0 (memWrite 0x4016 v1 s))) =
      (List.range n).map (fun k => if k < 8 then s.pads.buttons1.getLsbD k else true) ∧
    padBits 0x4017 n (readPad 0x4016 m (memWrite 0x4016 v0 (memWrite 0x4016 v1 s))) =
      (List.range n).map (fun k => if k < 8 then s.pads.buttons2.getLsbD k else true) ∧
    (s.Inv → s.pads.buttons2 = 0)

/-- The power-on values that the spec states, for any cartridge and any OPEN values (10 R43, R44; 20 R64). -/
def Obligations.PowerOnValues : Prop :=
  ∀ (c : Cartridge) (o : OpenValues) (stall : OamDmaStall), 1 ≤ c.prgBanks → ∃ s, State.powerOn c o stall = s ∧
    s.pc = fromBytes (c.prg.read (c.prgBanks * 16384 - 4)) (c.prg.read (c.prgBanks * 16384 - 3)) ∧
    s.sp = 0xFD ∧ s.p.i = true ∧ s.pageCrossed = false ∧ s.branchTaken = false ∧ s.nmiPending = false ∧
    s.fault = none ∧ s.totalCycles = 0 ∧
    s.cart.prg = c.prg ∧ (0 < c.chrBanks → s.cart.chr = c.chr) ∧
    s.cart.mmc1 = ⟨0, 0, 0x0C, 0, 0, 0⟩ ∧
    s.ppu = { s.ppu with
      ctrl := 0
      mask := 0
      vblank := false
      sprite0Hit := false
      spriteOverflow := false
      oamAddr := 0
      secondary := []
      v := 0
      t := 0
      fineX := 0
      w := false
      readBuffer := 0
      ob := 0
      obTimers := [0, 0, 0, 0, 0, 0, 0, 0]
      scanline := -1
      cycle := 0
      dmaActive := false
      nmiOut := false } ∧
    s.pads = ⟨false, 0, 0, 0, 0⟩

/-- The invariant holds of the state after reset. -/
def Obligations.InvariantHoldsAtReset : Prop :=
  State.reset.Inv

/-- THE INVARIANT IS KEPT BY EVERY STEP: every memory stays in canonical form and within its size, palette entries
stay 6 bits, MMC1's count stays 0 to 4, the PPU's position stays in the frame, the decay timers stay at or below their
thresholds and a decayed bit reads 0, secondary OAM holds at most eight sprites, the NMI output is vblank and enable,
no DMA is active between steps, and the frame buffer holds only pixels of the screen. -/
def Obligations.EveryStepKeepsTheInvariant : Prop :=
  ∀ s t : State, s.Inv → step s = .next t → t.Inv

/-- THE PPU FOLLOWS THE CPU IN LOCKSTEP: a step advances the PPU's position in its frame by 3 PPU cycles for each CPU
cycle it counts, whether the step was an instruction, an interrupt entry or a faulting fetch; so from power-on the
position is 3 × total_cycles modulo 89,342 (20 R67; 40 R123; 60 R263, R290). -/
def Obligations.EveryStepKeepsThePpuInLockstep : Prop :=
  ∀ s t : State, s.Inv → step s = .next t →
    s.totalCycles ≤ t.totalCycles ∧
    t.ppu.position = (s.ppu.position + 3 * (t.totalCycles - s.totalCycles)) % 89342 ∧
    (s.ppu.position = 3 * s.totalCycles % 89342 → t.ppu.position = 3 * t.totalCycles % 89342)

/-- The driver frame ends with at least 29,780 more CPU cycles counted, or with a fault recorded (60 R291). That the
loop never runs out of the model's fuel is part of it (log 17). -/
def Obligations.DriverFrameReachesItsBound : Prop :=
  ∀ (s : State) (buttons : Byte), ∃ t, runFrame buttons s = .next t ∧
    (s.totalCycles + 29780 ≤ t.totalCycles ∨ t.fault ≠ none)

/-- An idle loop goes on for ever: with I set, the step counts 3 cycles and leads to an idle loop with the same CPU
registers, memory and cartridge (70 R311). With I clear this is not stated: `State.IdleLoop` asks for the level of
IRQ_LINE at the next step only, and the later levels are free (log 22). -/
def Obligations.IdleLoopGoesOn : Prop :=
  ∀ s : State, s.IdleLoop → s.p.i = true → ∃ t, step s = .next t ∧ t.IdleLoop ∧
    registers t = registers s ∧ t.ram = s.ram ∧ t.cart = s.cart ∧ t.totalCycles = s.totalCycles + 3
end

