-- ==== Sys2Proof/Laws/Bits.lean ====
section
/-! SUPPORT. The laws of the bit helpers: `word` with `hiByte` and `loByte`, the stack's address, the merge of bits. -/

namespace Sys2Proof

theorem zext16_toNat (v : Byte) : (zext16 v).toNat = v.toNat := by
  have := v.isLt
  simp [zext16]
  omega

theorem word_toNat (hi lo : Byte) : (word hi lo).toNat = hi.toNat * 256 + lo.toNat := by
  have h1 := hi.isLt
  have h2 := lo.isLt
  have h3 : (BitVec.setWidth 16 hi).toNat = hi.toNat := by simp; omega
  have h4 : (BitVec.setWidth 16 lo).toNat = lo.toNat := by simp; omega
  rw [word, BitVec.toNat_or, BitVec.toNat_shiftLeft, h3, h4]
  have h5 : hi.toNat <<< 8 = hi.toNat * 256 := by rw [Nat.shiftLeft_eq]
  rw [Nat.mod_eq_of_lt (by omega), ← Nat.shiftLeft_add_eq_or_of_lt (by omega), h5]

theorem loByte_toNat (w : Word) : (loByte w).toNat = w.toNat % 256 := by
  simp [loByte]

theorem hiByte_toNat (w : Word) : (hiByte w).toNat = w.toNat / 256 := by
  have := w.isLt
  simp [hiByte, Nat.shiftRight_eq_div_pow]
  omega

@[simp] theorem loByte_word (hi lo : Byte) : loByte (word hi lo) = lo := by
  have := lo.isLt
  apply BitVec.eq_of_toNat_eq
  rw [loByte_toNat, word_toNat]
  omega

@[simp] theorem hiByte_word (hi lo : Byte) : hiByte (word hi lo) = hi := by
  have := lo.isLt
  apply BitVec.eq_of_toNat_eq
  rw [hiByte_toNat, word_toNat]
  omega

@[simp] theorem word_hiByte_loByte (w : Word) : word (hiByte w) (loByte w) = w := by
  apply BitVec.eq_of_toNat_eq
  rw [word_toNat, hiByte_toNat, loByte_toNat]
  omega

theorem bitAt_getLsbD (b : Bool) (k i : Nat) (hi : i < 8) :
    (bitAt b k).getLsbD i = (b && decide (i = k)) := by
  cases b
  · simp [bitAt]
  · by_cases h : i = k
    · subst h; simp [bitAt, hi]
    · by_cases hk : k ≤ i
      · have : i - k ≠ 0 := by omega
        simp [bitAt, h, hi, this]
      · simp [bitAt, h, hi, show i < k by omega]

theorem byteOfBits_getLsbD (bs : List Bool) (i : Nat) (h : i < 8) :
    (byteOfBits bs).getLsbD i = bs.getD i false := by
  induction bs generalizing i with
  | nil => simp [byteOfBits]
  | cons b bs ih =>
    rw [byteOfBits, BitVec.getLsbD_or, bitAt_getLsbD b 0 i h, BitVec.getLsbD_shiftLeft]
    cases i with
    | zero => simp
    | succ i => simp [ih i (by omega), h]

theorem mergeBits_getLsbD (mask new old : Byte) (i : Nat) (h : i < 8) :
    (mergeBits mask new old).getLsbD i = if mask.getLsbD i then new.getLsbD i else old.getLsbD i := by
  simp only [mergeBits, BitVec.getLsbD_or, BitVec.getLsbD_and, BitVec.getLsbD_not, h, decide_true]
  cases mask.getLsbD i <;> simp

@[simp] theorem mergeBits_all (new old : Byte) : mergeBits 0xFF new old = new := by
  have h1 : old &&& ~~~(0xFF : Byte) = 0 := by rw [show ~~~(0xFF : Byte) = 0 by decide]; simp
  have h2 : new &&& (0xFF : Byte) = new := by
    rw [show (0xFF : Byte) = BitVec.allOnes 8 by decide, BitVec.and_allOnes]
  rw [mergeBits, h1, h2]
  simp

theorem Machine.stackAddr_toNat (sp : Byte) : (Machine.stackAddr sp).toNat = 0x100 + sp.toNat := by
  revert sp
  decide +kernel

end Sys2Proof
end

