-- ==== Sys2Proof/Laws/State.lean ====
section
/-! SUPPORT. One lemma per field per update of State, each true by rfl, so that no proof unfolds a record update. -/

namespace Sys2Proof.Machine

@[simp] theorem setA_a (s : State) (v : Byte) : (s.setA v).a = v := rfl
@[simp] theorem setA_x (s : State) (v : Byte) : (s.setA v).x = s.x := rfl
@[simp] theorem setA_y (s : State) (v : Byte) : (s.setA v).y = s.y := rfl
@[simp] theorem setA_sp (s : State) (v : Byte) : (s.setA v).sp = s.sp := rfl
@[simp] theorem setA_pc (s : State) (v : Byte) : (s.setA v).pc = s.pc := rfl
@[simp] theorem setA_p (s : State) (v : Byte) : (s.setA v).p = s.p := rfl
@[simp] theorem setA_pageCrossed (s : State) (v : Byte) : (s.setA v).pageCrossed = s.pageCrossed := rfl
@[simp] theorem setA_branchTaken (s : State) (v : Byte) : (s.setA v).branchTaken = s.branchTaken := rfl
@[simp] theorem setA_dmaStall (s : State) (v : Byte) : (s.setA v).dmaStall = s.dmaStall := rfl
@[simp] theorem setA_nmiPending (s : State) (v : Byte) : (s.setA v).nmiPending = s.nmiPending := rfl
@[simp] theorem setA_fault (s : State) (v : Byte) : (s.setA v).fault = s.fault := rfl
@[simp] theorem setA_totalCycles (s : State) (v : Byte) : (s.setA v).totalCycles = s.totalCycles := rfl
@[simp] theorem setA_ram (s : State) (v : Byte) : (s.setA v).ram = s.ram := rfl
@[simp] theorem setA_cart (s : State) (v : Byte) : (s.setA v).cart = s.cart := rfl
@[simp] theorem setA_ppu (s : State) (v : Byte) : (s.setA v).ppu = s.ppu := rfl
@[simp] theorem setA_pads (s : State) (v : Byte) : (s.setA v).pads = s.pads := rfl
@[simp] theorem setA_oamDmaStall (s : State) (v : Byte) : (s.setA v).oamDmaStall = s.oamDmaStall := rfl
@[simp] theorem setA_irqIn (s : State) (v : Byte) : (s.setA v).irqIn = s.irqIn := rfl
@[simp] theorem setA_stepNo (s : State) (v : Byte) : (s.setA v).stepNo = s.stepNo := rfl
@[simp] theorem setA_draws (s : State) (v : Byte) : (s.setA v).draws = s.draws := rfl

@[simp] theorem setX_a (s : State) (v : Byte) : (s.setX v).a = s.a := rfl
@[simp] theorem setX_x (s : State) (v : Byte) : (s.setX v).x = v := rfl
@[simp] theorem setX_y (s : State) (v : Byte) : (s.setX v).y = s.y := rfl
@[simp] theorem setX_sp (s : State) (v : Byte) : (s.setX v).sp = s.sp := rfl
@[simp] theorem setX_pc (s : State) (v : Byte) : (s.setX v).pc = s.pc := rfl
@[simp] theorem setX_p (s : State) (v : Byte) : (s.setX v).p = s.p := rfl
@[simp] theorem setX_pageCrossed (s : State) (v : Byte) : (s.setX v).pageCrossed = s.pageCrossed := rfl
@[simp] theorem setX_branchTaken (s : State) (v : Byte) : (s.setX v).branchTaken = s.branchTaken := rfl
@[simp] theorem setX_dmaStall (s : State) (v : Byte) : (s.setX v).dmaStall = s.dmaStall := rfl
@[simp] theorem setX_nmiPending (s : State) (v : Byte) : (s.setX v).nmiPending = s.nmiPending := rfl
@[simp] theorem setX_fault (s : State) (v : Byte) : (s.setX v).fault = s.fault := rfl
@[simp] theorem setX_totalCycles (s : State) (v : Byte) : (s.setX v).totalCycles = s.totalCycles := rfl
@[simp] theorem setX_ram (s : State) (v : Byte) : (s.setX v).ram = s.ram := rfl
@[simp] theorem setX_cart (s : State) (v : Byte) : (s.setX v).cart = s.cart := rfl
@[simp] theorem setX_ppu (s : State) (v : Byte) : (s.setX v).ppu = s.ppu := rfl
@[simp] theorem setX_pads (s : State) (v : Byte) : (s.setX v).pads = s.pads := rfl
@[simp] theorem setX_oamDmaStall (s : State) (v : Byte) : (s.setX v).oamDmaStall = s.oamDmaStall := rfl
@[simp] theorem setX_irqIn (s : State) (v : Byte) : (s.setX v).irqIn = s.irqIn := rfl
@[simp] theorem setX_stepNo (s : State) (v : Byte) : (s.setX v).stepNo = s.stepNo := rfl
@[simp] theorem setX_draws (s : State) (v : Byte) : (s.setX v).draws = s.draws := rfl

@[simp] theorem setY_a (s : State) (v : Byte) : (s.setY v).a = s.a := rfl
@[simp] theorem setY_x (s : State) (v : Byte) : (s.setY v).x = s.x := rfl
@[simp] theorem setY_y (s : State) (v : Byte) : (s.setY v).y = v := rfl
@[simp] theorem setY_sp (s : State) (v : Byte) : (s.setY v).sp = s.sp := rfl
@[simp] theorem setY_pc (s : State) (v : Byte) : (s.setY v).pc = s.pc := rfl
@[simp] theorem setY_p (s : State) (v : Byte) : (s.setY v).p = s.p := rfl
@[simp] theorem setY_pageCrossed (s : State) (v : Byte) : (s.setY v).pageCrossed = s.pageCrossed := rfl
@[simp] theorem setY_branchTaken (s : State) (v : Byte) : (s.setY v).branchTaken = s.branchTaken := rfl
@[simp] theorem setY_dmaStall (s : State) (v : Byte) : (s.setY v).dmaStall = s.dmaStall := rfl
@[simp] theorem setY_nmiPending (s : State) (v : Byte) : (s.setY v).nmiPending = s.nmiPending := rfl
@[simp] theorem setY_fault (s : State) (v : Byte) : (s.setY v).fault = s.fault := rfl
@[simp] theorem setY_totalCycles (s : State) (v : Byte) : (s.setY v).totalCycles = s.totalCycles := rfl
@[simp] theorem setY_ram (s : State) (v : Byte) : (s.setY v).ram = s.ram := rfl
@[simp] theorem setY_cart (s : State) (v : Byte) : (s.setY v).cart = s.cart := rfl
@[simp] theorem setY_ppu (s : State) (v : Byte) : (s.setY v).ppu = s.ppu := rfl
@[simp] theorem setY_pads (s : State) (v : Byte) : (s.setY v).pads = s.pads := rfl
@[simp] theorem setY_oamDmaStall (s : State) (v : Byte) : (s.setY v).oamDmaStall = s.oamDmaStall := rfl
@[simp] theorem setY_irqIn (s : State) (v : Byte) : (s.setY v).irqIn = s.irqIn := rfl
@[simp] theorem setY_stepNo (s : State) (v : Byte) : (s.setY v).stepNo = s.stepNo := rfl
@[simp] theorem setY_draws (s : State) (v : Byte) : (s.setY v).draws = s.draws := rfl

@[simp] theorem setSp_a (s : State) (v : Byte) : (s.setSp v).a = s.a := rfl
@[simp] theorem setSp_x (s : State) (v : Byte) : (s.setSp v).x = s.x := rfl
@[simp] theorem setSp_y (s : State) (v : Byte) : (s.setSp v).y = s.y := rfl
@[simp] theorem setSp_sp (s : State) (v : Byte) : (s.setSp v).sp = v := rfl
@[simp] theorem setSp_pc (s : State) (v : Byte) : (s.setSp v).pc = s.pc := rfl
@[simp] theorem setSp_p (s : State) (v : Byte) : (s.setSp v).p = s.p := rfl
@[simp] theorem setSp_pageCrossed (s : State) (v : Byte) : (s.setSp v).pageCrossed = s.pageCrossed := rfl
@[simp] theorem setSp_branchTaken (s : State) (v : Byte) : (s.setSp v).branchTaken = s.branchTaken := rfl
@[simp] theorem setSp_dmaStall (s : State) (v : Byte) : (s.setSp v).dmaStall = s.dmaStall := rfl
@[simp] theorem setSp_nmiPending (s : State) (v : Byte) : (s.setSp v).nmiPending = s.nmiPending := rfl
@[simp] theorem setSp_fault (s : State) (v : Byte) : (s.setSp v).fault = s.fault := rfl
@[simp] theorem setSp_totalCycles (s : State) (v : Byte) : (s.setSp v).totalCycles = s.totalCycles := rfl
@[simp] theorem setSp_ram (s : State) (v : Byte) : (s.setSp v).ram = s.ram := rfl
@[simp] theorem setSp_cart (s : State) (v : Byte) : (s.setSp v).cart = s.cart := rfl
@[simp] theorem setSp_ppu (s : State) (v : Byte) : (s.setSp v).ppu = s.ppu := rfl
@[simp] theorem setSp_pads (s : State) (v : Byte) : (s.setSp v).pads = s.pads := rfl
@[simp] theorem setSp_oamDmaStall (s : State) (v : Byte) : (s.setSp v).oamDmaStall = s.oamDmaStall := rfl
@[simp] theorem setSp_irqIn (s : State) (v : Byte) : (s.setSp v).irqIn = s.irqIn := rfl
@[simp] theorem setSp_stepNo (s : State) (v : Byte) : (s.setSp v).stepNo = s.stepNo := rfl
@[simp] theorem setSp_draws (s : State) (v : Byte) : (s.setSp v).draws = s.draws := rfl

@[simp] theorem setPc_a (s : State) (v : Word) : (s.setPc v).a = s.a := rfl
@[simp] theorem setPc_x (s : State) (v : Word) : (s.setPc v).x = s.x := rfl
@[simp] theorem setPc_y (s : State) (v : Word) : (s.setPc v).y = s.y := rfl
@[simp] theorem setPc_sp (s : State) (v : Word) : (s.setPc v).sp = s.sp := rfl
@[simp] theorem setPc_pc (s : State) (v : Word) : (s.setPc v).pc = v := rfl
@[simp] theorem setPc_p (s : State) (v : Word) : (s.setPc v).p = s.p := rfl
@[simp] theorem setPc_pageCrossed (s : State) (v : Word) : (s.setPc v).pageCrossed = s.pageCrossed := rfl
@[simp] theorem setPc_branchTaken (s : State) (v : Word) : (s.setPc v).branchTaken = s.branchTaken := rfl
@[simp] theorem setPc_dmaStall (s : State) (v : Word) : (s.setPc v).dmaStall = s.dmaStall := rfl
@[simp] theorem setPc_nmiPending (s : State) (v : Word) : (s.setPc v).nmiPending = s.nmiPending := rfl
@[simp] theorem setPc_fault (s : State) (v : Word) : (s.setPc v).fault = s.fault := rfl
@[simp] theorem setPc_totalCycles (s : State) (v : Word) : (s.setPc v).totalCycles = s.totalCycles := rfl
@[simp] theorem setPc_ram (s : State) (v : Word) : (s.setPc v).ram = s.ram := rfl
@[simp] theorem setPc_cart (s : State) (v : Word) : (s.setPc v).cart = s.cart := rfl
@[simp] theorem setPc_ppu (s : State) (v : Word) : (s.setPc v).ppu = s.ppu := rfl
@[simp] theorem setPc_pads (s : State) (v : Word) : (s.setPc v).pads = s.pads := rfl
@[simp] theorem setPc_oamDmaStall (s : State) (v : Word) : (s.setPc v).oamDmaStall = s.oamDmaStall := rfl
@[simp] theorem setPc_irqIn (s : State) (v : Word) : (s.setPc v).irqIn = s.irqIn := rfl
@[simp] theorem setPc_stepNo (s : State) (v : Word) : (s.setPc v).stepNo = s.stepNo := rfl
@[simp] theorem setPc_draws (s : State) (v : Word) : (s.setPc v).draws = s.draws := rfl

@[simp] theorem setP_a (s : State) (v : Flags) : (s.setP v).a = s.a := rfl
@[simp] theorem setP_x (s : State) (v : Flags) : (s.setP v).x = s.x := rfl
@[simp] theorem setP_y (s : State) (v : Flags) : (s.setP v).y = s.y := rfl
@[simp] theorem setP_sp (s : State) (v : Flags) : (s.setP v).sp = s.sp := rfl
@[simp] theorem setP_pc (s : State) (v : Flags) : (s.setP v).pc = s.pc := rfl
@[simp] theorem setP_p (s : State) (v : Flags) : (s.setP v).p = v := rfl
@[simp] theorem setP_pageCrossed (s : State) (v : Flags) : (s.setP v).pageCrossed = s.pageCrossed := rfl
@[simp] theorem setP_branchTaken (s : State) (v : Flags) : (s.setP v).branchTaken = s.branchTaken := rfl
@[simp] theorem setP_dmaStall (s : State) (v : Flags) : (s.setP v).dmaStall = s.dmaStall := rfl
@[simp] theorem setP_nmiPending (s : State) (v : Flags) : (s.setP v).nmiPending = s.nmiPending := rfl
@[simp] theorem setP_fault (s : State) (v : Flags) : (s.setP v).fault = s.fault := rfl
@[simp] theorem setP_totalCycles (s : State) (v : Flags) : (s.setP v).totalCycles = s.totalCycles := rfl
@[simp] theorem setP_ram (s : State) (v : Flags) : (s.setP v).ram = s.ram := rfl
@[simp] theorem setP_cart (s : State) (v : Flags) : (s.setP v).cart = s.cart := rfl
@[simp] theorem setP_ppu (s : State) (v : Flags) : (s.setP v).ppu = s.ppu := rfl
@[simp] theorem setP_pads (s : State) (v : Flags) : (s.setP v).pads = s.pads := rfl
@[simp] theorem setP_oamDmaStall (s : State) (v : Flags) : (s.setP v).oamDmaStall = s.oamDmaStall := rfl
@[simp] theorem setP_irqIn (s : State) (v : Flags) : (s.setP v).irqIn = s.irqIn := rfl
@[simp] theorem setP_stepNo (s : State) (v : Flags) : (s.setP v).stepNo = s.stepNo := rfl
@[simp] theorem setP_draws (s : State) (v : Flags) : (s.setP v).draws = s.draws := rfl

@[simp] theorem setPageCrossed_a (s : State) (v : Bool) : (s.setPageCrossed v).a = s.a := rfl
@[simp] theorem setPageCrossed_x (s : State) (v : Bool) : (s.setPageCrossed v).x = s.x := rfl
@[simp] theorem setPageCrossed_y (s : State) (v : Bool) : (s.setPageCrossed v).y = s.y := rfl
@[simp] theorem setPageCrossed_sp (s : State) (v : Bool) : (s.setPageCrossed v).sp = s.sp := rfl
@[simp] theorem setPageCrossed_pc (s : State) (v : Bool) : (s.setPageCrossed v).pc = s.pc := rfl
@[simp] theorem setPageCrossed_p (s : State) (v : Bool) : (s.setPageCrossed v).p = s.p := rfl
@[simp] theorem setPageCrossed_pageCrossed (s : State) (v : Bool) : (s.setPageCrossed v).pageCrossed = v := rfl
@[simp] theorem setPageCrossed_branchTaken (s : State) (v : Bool) : (s.setPageCrossed v).branchTaken = s.branchTaken := rfl
@[simp] theorem setPageCrossed_dmaStall (s : State) (v : Bool) : (s.setPageCrossed v).dmaStall = s.dmaStall := rfl
@[simp] theorem setPageCrossed_nmiPending (s : State) (v : Bool) : (s.setPageCrossed v).nmiPending = s.nmiPending := rfl
@[simp] theorem setPageCrossed_fault (s : State) (v : Bool) : (s.setPageCrossed v).fault = s.fault := rfl
@[simp] theorem setPageCrossed_totalCycles (s : State) (v : Bool) : (s.setPageCrossed v).totalCycles = s.totalCycles := rfl
@[simp] theorem setPageCrossed_ram (s : State) (v : Bool) : (s.setPageCrossed v).ram = s.ram := rfl
@[simp] theorem setPageCrossed_cart (s : State) (v : Bool) : (s.setPageCrossed v).cart = s.cart := rfl
@[simp] theorem setPageCrossed_ppu (s : State) (v : Bool) : (s.setPageCrossed v).ppu = s.ppu := rfl
@[simp] theorem setPageCrossed_pads (s : State) (v : Bool) : (s.setPageCrossed v).pads = s.pads := rfl
@[simp] theorem setPageCrossed_oamDmaStall (s : State) (v : Bool) : (s.setPageCrossed v).oamDmaStall = s.oamDmaStall := rfl
@[simp] theorem setPageCrossed_irqIn (s : State) (v : Bool) : (s.setPageCrossed v).irqIn = s.irqIn := rfl
@[simp] theorem setPageCrossed_stepNo (s : State) (v : Bool) : (s.setPageCrossed v).stepNo = s.stepNo := rfl
@[simp] theorem setPageCrossed_draws (s : State) (v : Bool) : (s.setPageCrossed v).draws = s.draws := rfl

@[simp] theorem setBranchTaken_a (s : State) (v : Bool) : (s.setBranchTaken v).a = s.a := rfl
@[simp] theorem setBranchTaken_x (s : State) (v : Bool) : (s.setBranchTaken v).x = s.x := rfl
@[simp] theorem setBranchTaken_y (s : State) (v : Bool) : (s.setBranchTaken v).y = s.y := rfl
@[simp] theorem setBranchTaken_sp (s : State) (v : Bool) : (s.setBranchTaken v).sp = s.sp := rfl
@[simp] theorem setBranchTaken_pc (s : State) (v : Bool) : (s.setBranchTaken v).pc = s.pc := rfl
@[simp] theorem setBranchTaken_p (s : State) (v : Bool) : (s.setBranchTaken v).p = s.p := rfl
@[simp] theorem setBranchTaken_pageCrossed (s : State) (v : Bool) : (s.setBranchTaken v).pageCrossed = s.pageCrossed := rfl
@[simp] theorem setBranchTaken_branchTaken (s : State) (v : Bool) : (s.setBranchTaken v).branchTaken = v := rfl
@[simp] theorem setBranchTaken_dmaStall (s : State) (v : Bool) : (s.setBranchTaken v).dmaStall = s.dmaStall := rfl
@[simp] theorem setBranchTaken_nmiPending (s : State) (v : Bool) : (s.setBranchTaken v).nmiPending = s.nmiPending := rfl
@[simp] theorem setBranchTaken_fault (s : State) (v : Bool) : (s.setBranchTaken v).fault = s.fault := rfl
@[simp] theorem setBranchTaken_totalCycles (s : State) (v : Bool) : (s.setBranchTaken v).totalCycles = s.totalCycles := rfl
@[simp] theorem setBranchTaken_ram (s : State) (v : Bool) : (s.setBranchTaken v).ram = s.ram := rfl
@[simp] theorem setBranchTaken_cart (s : State) (v : Bool) : (s.setBranchTaken v).cart = s.cart := rfl
@[simp] theorem setBranchTaken_ppu (s : State) (v : Bool) : (s.setBranchTaken v).ppu = s.ppu := rfl
@[simp] theorem setBranchTaken_pads (s : State) (v : Bool) : (s.setBranchTaken v).pads = s.pads := rfl
@[simp] theorem setBranchTaken_oamDmaStall (s : State) (v : Bool) : (s.setBranchTaken v).oamDmaStall = s.oamDmaStall := rfl
@[simp] theorem setBranchTaken_irqIn (s : State) (v : Bool) : (s.setBranchTaken v).irqIn = s.irqIn := rfl
@[simp] theorem setBranchTaken_stepNo (s : State) (v : Bool) : (s.setBranchTaken v).stepNo = s.stepNo := rfl
@[simp] theorem setBranchTaken_draws (s : State) (v : Bool) : (s.setBranchTaken v).draws = s.draws := rfl

@[simp] theorem setDmaStall_a (s : State) (v : Nat) : (s.setDmaStall v).a = s.a := rfl
@[simp] theorem setDmaStall_x (s : State) (v : Nat) : (s.setDmaStall v).x = s.x := rfl
@[simp] theorem setDmaStall_y (s : State) (v : Nat) : (s.setDmaStall v).y = s.y := rfl
@[simp] theorem setDmaStall_sp (s : State) (v : Nat) : (s.setDmaStall v).sp = s.sp := rfl
@[simp] theorem setDmaStall_pc (s : State) (v : Nat) : (s.setDmaStall v).pc = s.pc := rfl
@[simp] theorem setDmaStall_p (s : State) (v : Nat) : (s.setDmaStall v).p = s.p := rfl
@[simp] theorem setDmaStall_pageCrossed (s : State) (v : Nat) : (s.setDmaStall v).pageCrossed = s.pageCrossed := rfl
@[simp] theorem setDmaStall_branchTaken (s : State) (v : Nat) : (s.setDmaStall v).branchTaken = s.branchTaken := rfl
@[simp] theorem setDmaStall_dmaStall (s : State) (v : Nat) : (s.setDmaStall v).dmaStall = v := rfl
@[simp] theorem setDmaStall_nmiPending (s : State) (v : Nat) : (s.setDmaStall v).nmiPending = s.nmiPending := rfl
@[simp] theorem setDmaStall_fault (s : State) (v : Nat) : (s.setDmaStall v).fault = s.fault := rfl
@[simp] theorem setDmaStall_totalCycles (s : State) (v : Nat) : (s.setDmaStall v).totalCycles = s.totalCycles := rfl
@[simp] theorem setDmaStall_ram (s : State) (v : Nat) : (s.setDmaStall v).ram = s.ram := rfl
@[simp] theorem setDmaStall_cart (s : State) (v : Nat) : (s.setDmaStall v).cart = s.cart := rfl
@[simp] theorem setDmaStall_ppu (s : State) (v : Nat) : (s.setDmaStall v).ppu = s.ppu := rfl
@[simp] theorem setDmaStall_pads (s : State) (v : Nat) : (s.setDmaStall v).pads = s.pads := rfl
@[simp] theorem setDmaStall_oamDmaStall (s : State) (v : Nat) : (s.setDmaStall v).oamDmaStall = s.oamDmaStall := rfl
@[simp] theorem setDmaStall_irqIn (s : State) (v : Nat) : (s.setDmaStall v).irqIn = s.irqIn := rfl
@[simp] theorem setDmaStall_stepNo (s : State) (v : Nat) : (s.setDmaStall v).stepNo = s.stepNo := rfl
@[simp] theorem setDmaStall_draws (s : State) (v : Nat) : (s.setDmaStall v).draws = s.draws := rfl

@[simp] theorem setNmiPending_a (s : State) (v : Bool) : (s.setNmiPending v).a = s.a := rfl
@[simp] theorem setNmiPending_x (s : State) (v : Bool) : (s.setNmiPending v).x = s.x := rfl
@[simp] theorem setNmiPending_y (s : State) (v : Bool) : (s.setNmiPending v).y = s.y := rfl
@[simp] theorem setNmiPending_sp (s : State) (v : Bool) : (s.setNmiPending v).sp = s.sp := rfl
@[simp] theorem setNmiPending_pc (s : State) (v : Bool) : (s.setNmiPending v).pc = s.pc := rfl
@[simp] theorem setNmiPending_p (s : State) (v : Bool) : (s.setNmiPending v).p = s.p := rfl
@[simp] theorem setNmiPending_pageCrossed (s : State) (v : Bool) : (s.setNmiPending v).pageCrossed = s.pageCrossed := rfl
@[simp] theorem setNmiPending_branchTaken (s : State) (v : Bool) : (s.setNmiPending v).branchTaken = s.branchTaken := rfl
@[simp] theorem setNmiPending_dmaStall (s : State) (v : Bool) : (s.setNmiPending v).dmaStall = s.dmaStall := rfl
@[simp] theorem setNmiPending_nmiPending (s : State) (v : Bool) : (s.setNmiPending v).nmiPending = v := rfl
@[simp] theorem setNmiPending_fault (s : State) (v : Bool) : (s.setNmiPending v).fault = s.fault := rfl
@[simp] theorem setNmiPending_totalCycles (s : State) (v : Bool) : (s.setNmiPending v).totalCycles = s.totalCycles := rfl
@[simp] theorem setNmiPending_ram (s : State) (v : Bool) : (s.setNmiPending v).ram = s.ram := rfl
@[simp] theorem setNmiPending_cart (s : State) (v : Bool) : (s.setNmiPending v).cart = s.cart := rfl
@[simp] theorem setNmiPending_ppu (s : State) (v : Bool) : (s.setNmiPending v).ppu = s.ppu := rfl
@[simp] theorem setNmiPending_pads (s : State) (v : Bool) : (s.setNmiPending v).pads = s.pads := rfl
@[simp] theorem setNmiPending_oamDmaStall (s : State) (v : Bool) : (s.setNmiPending v).oamDmaStall = s.oamDmaStall := rfl
@[simp] theorem setNmiPending_irqIn (s : State) (v : Bool) : (s.setNmiPending v).irqIn = s.irqIn := rfl
@[simp] theorem setNmiPending_stepNo (s : State) (v : Bool) : (s.setNmiPending v).stepNo = s.stepNo := rfl
@[simp] theorem setNmiPending_draws (s : State) (v : Bool) : (s.setNmiPending v).draws = s.draws := rfl

@[simp] theorem setFault_a (s : State) (v : Option Fault) : (s.setFault v).a = s.a := rfl
@[simp] theorem setFault_x (s : State) (v : Option Fault) : (s.setFault v).x = s.x := rfl
@[simp] theorem setFault_y (s : State) (v : Option Fault) : (s.setFault v).y = s.y := rfl
@[simp] theorem setFault_sp (s : State) (v : Option Fault) : (s.setFault v).sp = s.sp := rfl
@[simp] theorem setFault_pc (s : State) (v : Option Fault) : (s.setFault v).pc = s.pc := rfl
@[simp] theorem setFault_p (s : State) (v : Option Fault) : (s.setFault v).p = s.p := rfl
@[simp] theorem setFault_pageCrossed (s : State) (v : Option Fault) : (s.setFault v).pageCrossed = s.pageCrossed := rfl
@[simp] theorem setFault_branchTaken (s : State) (v : Option Fault) : (s.setFault v).branchTaken = s.branchTaken := rfl
@[simp] theorem setFault_dmaStall (s : State) (v : Option Fault) : (s.setFault v).dmaStall = s.dmaStall := rfl
@[simp] theorem setFault_nmiPending (s : State) (v : Option Fault) : (s.setFault v).nmiPending = s.nmiPending := rfl
@[simp] theorem setFault_fault (s : State) (v : Option Fault) : (s.setFault v).fault = v := rfl
@[simp] theorem setFault_totalCycles (s : State) (v : Option Fault) : (s.setFault v).totalCycles = s.totalCycles := rfl
@[simp] theorem setFault_ram (s : State) (v : Option Fault) : (s.setFault v).ram = s.ram := rfl
@[simp] theorem setFault_cart (s : State) (v : Option Fault) : (s.setFault v).cart = s.cart := rfl
@[simp] theorem setFault_ppu (s : State) (v : Option Fault) : (s.setFault v).ppu = s.ppu := rfl
@[simp] theorem setFault_pads (s : State) (v : Option Fault) : (s.setFault v).pads = s.pads := rfl
@[simp] theorem setFault_oamDmaStall (s : State) (v : Option Fault) : (s.setFault v).oamDmaStall = s.oamDmaStall := rfl
@[simp] theorem setFault_irqIn (s : State) (v : Option Fault) : (s.setFault v).irqIn = s.irqIn := rfl
@[simp] theorem setFault_stepNo (s : State) (v : Option Fault) : (s.setFault v).stepNo = s.stepNo := rfl
@[simp] theorem setFault_draws (s : State) (v : Option Fault) : (s.setFault v).draws = s.draws := rfl

@[simp] theorem setTotalCycles_a (s : State) (v : Nat) : (s.setTotalCycles v).a = s.a := rfl
@[simp] theorem setTotalCycles_x (s : State) (v : Nat) : (s.setTotalCycles v).x = s.x := rfl
@[simp] theorem setTotalCycles_y (s : State) (v : Nat) : (s.setTotalCycles v).y = s.y := rfl
@[simp] theorem setTotalCycles_sp (s : State) (v : Nat) : (s.setTotalCycles v).sp = s.sp := rfl
@[simp] theorem setTotalCycles_pc (s : State) (v : Nat) : (s.setTotalCycles v).pc = s.pc := rfl
@[simp] theorem setTotalCycles_p (s : State) (v : Nat) : (s.setTotalCycles v).p = s.p := rfl
@[simp] theorem setTotalCycles_pageCrossed (s : State) (v : Nat) : (s.setTotalCycles v).pageCrossed = s.pageCrossed := rfl
@[simp] theorem setTotalCycles_branchTaken (s : State) (v : Nat) : (s.setTotalCycles v).branchTaken = s.branchTaken := rfl
@[simp] theorem setTotalCycles_dmaStall (s : State) (v : Nat) : (s.setTotalCycles v).dmaStall = s.dmaStall := rfl
@[simp] theorem setTotalCycles_nmiPending (s : State) (v : Nat) : (s.setTotalCycles v).nmiPending = s.nmiPending := rfl
@[simp] theorem setTotalCycles_fault (s : State) (v : Nat) : (s.setTotalCycles v).fault = s.fault := rfl
@[simp] theorem setTotalCycles_totalCycles (s : State) (v : Nat) : (s.setTotalCycles v).totalCycles = v := rfl
@[simp] theorem setTotalCycles_ram (s : State) (v : Nat) : (s.setTotalCycles v).ram = s.ram := rfl
@[simp] theorem setTotalCycles_cart (s : State) (v : Nat) : (s.setTotalCycles v).cart = s.cart := rfl
@[simp] theorem setTotalCycles_ppu (s : State) (v : Nat) : (s.setTotalCycles v).ppu = s.ppu := rfl
@[simp] theorem setTotalCycles_pads (s : State) (v : Nat) : (s.setTotalCycles v).pads = s.pads := rfl
@[simp] theorem setTotalCycles_oamDmaStall (s : State) (v : Nat) : (s.setTotalCycles v).oamDmaStall = s.oamDmaStall := rfl
@[simp] theorem setTotalCycles_irqIn (s : State) (v : Nat) : (s.setTotalCycles v).irqIn = s.irqIn := rfl
@[simp] theorem setTotalCycles_stepNo (s : State) (v : Nat) : (s.setTotalCycles v).stepNo = s.stepNo := rfl
@[simp] theorem setTotalCycles_draws (s : State) (v : Nat) : (s.setTotalCycles v).draws = s.draws := rfl

@[simp] theorem setRam_a (s : State) (v : Mem) : (s.setRam v).a = s.a := rfl
@[simp] theorem setRam_x (s : State) (v : Mem) : (s.setRam v).x = s.x := rfl
@[simp] theorem setRam_y (s : State) (v : Mem) : (s.setRam v).y = s.y := rfl
@[simp] theorem setRam_sp (s : State) (v : Mem) : (s.setRam v).sp = s.sp := rfl
@[simp] theorem setRam_pc (s : State) (v : Mem) : (s.setRam v).pc = s.pc := rfl
@[simp] theorem setRam_p (s : State) (v : Mem) : (s.setRam v).p = s.p := rfl
@[simp] theorem setRam_pageCrossed (s : State) (v : Mem) : (s.setRam v).pageCrossed = s.pageCrossed := rfl
@[simp] theorem setRam_branchTaken (s : State) (v : Mem) : (s.setRam v).branchTaken = s.branchTaken := rfl
@[simp] theorem setRam_dmaStall (s : State) (v : Mem) : (s.setRam v).dmaStall = s.dmaStall := rfl
@[simp] theorem setRam_nmiPending (s : State) (v : Mem) : (s.setRam v).nmiPending = s.nmiPending := rfl
@[simp] theorem setRam_fault (s : State) (v : Mem) : (s.setRam v).fault = s.fault := rfl
@[simp] theorem setRam_totalCycles (s : State) (v : Mem) : (s.setRam v).totalCycles = s.totalCycles := rfl
@[simp] theorem setRam_ram (s : State) (v : Mem) : (s.setRam v).ram = v := rfl
@[simp] theorem setRam_cart (s : State) (v : Mem) : (s.setRam v).cart = s.cart := rfl
@[simp] theorem setRam_ppu (s : State) (v : Mem) : (s.setRam v).ppu = s.ppu := rfl
@[simp] theorem setRam_pads (s : State) (v : Mem) : (s.setRam v).pads = s.pads := rfl
@[simp] theorem setRam_oamDmaStall (s : State) (v : Mem) : (s.setRam v).oamDmaStall = s.oamDmaStall := rfl
@[simp] theorem setRam_irqIn (s : State) (v : Mem) : (s.setRam v).irqIn = s.irqIn := rfl
@[simp] theorem setRam_stepNo (s : State) (v : Mem) : (s.setRam v).stepNo = s.stepNo := rfl
@[simp] theorem setRam_draws (s : State) (v : Mem) : (s.setRam v).draws = s.draws := rfl

@[simp] theorem setCart_a (s : State) (v : Cartridge) : (s.setCart v).a = s.a := rfl
@[simp] theorem setCart_x (s : State) (v : Cartridge) : (s.setCart v).x = s.x := rfl
@[simp] theorem setCart_y (s : State) (v : Cartridge) : (s.setCart v).y = s.y := rfl
@[simp] theorem setCart_sp (s : State) (v : Cartridge) : (s.setCart v).sp = s.sp := rfl
@[simp] theorem setCart_pc (s : State) (v : Cartridge) : (s.setCart v).pc = s.pc := rfl
@[simp] theorem setCart_p (s : State) (v : Cartridge) : (s.setCart v).p = s.p := rfl
@[simp] theorem setCart_pageCrossed (s : State) (v : Cartridge) : (s.setCart v).pageCrossed = s.pageCrossed := rfl
@[simp] theorem setCart_branchTaken (s : State) (v : Cartridge) : (s.setCart v).branchTaken = s.branchTaken := rfl
@[simp] theorem setCart_dmaStall (s : State) (v : Cartridge) : (s.setCart v).dmaStall = s.dmaStall := rfl
@[simp] theorem setCart_nmiPending (s : State) (v : Cartridge) : (s.setCart v).nmiPending = s.nmiPending := rfl
@[simp] theorem setCart_fault (s : State) (v : Cartridge) : (s.setCart v).fault = s.fault := rfl
@[simp] theorem setCart_totalCycles (s : State) (v : Cartridge) : (s.setCart v).totalCycles = s.totalCycles := rfl
@[simp] theorem setCart_ram (s : State) (v : Cartridge) : (s.setCart v).ram = s.ram := rfl
@[simp] theorem setCart_cart (s : State) (v : Cartridge) : (s.setCart v).cart = v := rfl
@[simp] theorem setCart_ppu (s : State) (v : Cartridge) : (s.setCart v).ppu = s.ppu := rfl
@[simp] theorem setCart_pads (s : State) (v : Cartridge) : (s.setCart v).pads = s.pads := rfl
@[simp] theorem setCart_oamDmaStall (s : State) (v : Cartridge) : (s.setCart v).oamDmaStall = s.oamDmaStall := rfl
@[simp] theorem setCart_irqIn (s : State) (v : Cartridge) : (s.setCart v).irqIn = s.irqIn := rfl
@[simp] theorem setCart_stepNo (s : State) (v : Cartridge) : (s.setCart v).stepNo = s.stepNo := rfl
@[simp] theorem setCart_draws (s : State) (v : Cartridge) : (s.setCart v).draws = s.draws := rfl

@[simp] theorem setPpu_a (s : State) (v : Ppu) : (s.setPpu v).a = s.a := rfl
@[simp] theorem setPpu_x (s : State) (v : Ppu) : (s.setPpu v).x = s.x := rfl
@[simp] theorem setPpu_y (s : State) (v : Ppu) : (s.setPpu v).y = s.y := rfl
@[simp] theorem setPpu_sp (s : State) (v : Ppu) : (s.setPpu v).sp = s.sp := rfl
@[simp] theorem setPpu_pc (s : State) (v : Ppu) : (s.setPpu v).pc = s.pc := rfl
@[simp] theorem setPpu_p (s : State) (v : Ppu) : (s.setPpu v).p = s.p := rfl
@[simp] theorem setPpu_pageCrossed (s : State) (v : Ppu) : (s.setPpu v).pageCrossed = s.pageCrossed := rfl
@[simp] theorem setPpu_branchTaken (s : State) (v : Ppu) : (s.setPpu v).branchTaken = s.branchTaken := rfl
@[simp] theorem setPpu_dmaStall (s : State) (v : Ppu) : (s.setPpu v).dmaStall = s.dmaStall := rfl
@[simp] theorem setPpu_nmiPending (s : State) (v : Ppu) : (s.setPpu v).nmiPending = s.nmiPending := rfl
@[simp] theorem setPpu_fault (s : State) (v : Ppu) : (s.setPpu v).fault = s.fault := rfl
@[simp] theorem setPpu_totalCycles (s : State) (v : Ppu) : (s.setPpu v).totalCycles = s.totalCycles := rfl
@[simp] theorem setPpu_ram (s : State) (v : Ppu) : (s.setPpu v).ram = s.ram := rfl
@[simp] theorem setPpu_cart (s : State) (v : Ppu) : (s.setPpu v).cart = s.cart := rfl
@[simp] theorem setPpu_ppu (s : State) (v : Ppu) : (s.setPpu v).ppu = v := rfl
@[simp] theorem setPpu_pads (s : State) (v : Ppu) : (s.setPpu v).pads = s.pads := rfl
@[simp] theorem setPpu_oamDmaStall (s : State) (v : Ppu) : (s.setPpu v).oamDmaStall = s.oamDmaStall := rfl
@[simp] theorem setPpu_irqIn (s : State) (v : Ppu) : (s.setPpu v).irqIn = s.irqIn := rfl
@[simp] theorem setPpu_stepNo (s : State) (v : Ppu) : (s.setPpu v).stepNo = s.stepNo := rfl
@[simp] theorem setPpu_draws (s : State) (v : Ppu) : (s.setPpu v).draws = s.draws := rfl

@[simp] theorem setPads_a (s : State) (v : Pads) : (s.setPads v).a = s.a := rfl
@[simp] theorem setPads_x (s : State) (v : Pads) : (s.setPads v).x = s.x := rfl
@[simp] theorem setPads_y (s : State) (v : Pads) : (s.setPads v).y = s.y := rfl
@[simp] theorem setPads_sp (s : State) (v : Pads) : (s.setPads v).sp = s.sp := rfl
@[simp] theorem setPads_pc (s : State) (v : Pads) : (s.setPads v).pc = s.pc := rfl
@[simp] theorem setPads_p (s : State) (v : Pads) : (s.setPads v).p = s.p := rfl
@[simp] theorem setPads_pageCrossed (s : State) (v : Pads) : (s.setPads v).pageCrossed = s.pageCrossed := rfl
@[simp] theorem setPads_branchTaken (s : State) (v : Pads) : (s.setPads v).branchTaken = s.branchTaken := rfl
@[simp] theorem setPads_dmaStall (s : State) (v : Pads) : (s.setPads v).dmaStall = s.dmaStall := rfl
@[simp] theorem setPads_nmiPending (s : State) (v : Pads) : (s.setPads v).nmiPending = s.nmiPending := rfl
@[simp] theorem setPads_fault (s : State) (v : Pads) : (s.setPads v).fault = s.fault := rfl
@[simp] theorem setPads_totalCycles (s : State) (v : Pads) : (s.setPads v).totalCycles = s.totalCycles := rfl
@[simp] theorem setPads_ram (s : State) (v : Pads) : (s.setPads v).ram = s.ram := rfl
@[simp] theorem setPads_cart (s : State) (v : Pads) : (s.setPads v).cart = s.cart := rfl
@[simp] theorem setPads_ppu (s : State) (v : Pads) : (s.setPads v).ppu = s.ppu := rfl
@[simp] theorem setPads_pads (s : State) (v : Pads) : (s.setPads v).pads = v := rfl
@[simp] theorem setPads_oamDmaStall (s : State) (v : Pads) : (s.setPads v).oamDmaStall = s.oamDmaStall := rfl
@[simp] theorem setPads_irqIn (s : State) (v : Pads) : (s.setPads v).irqIn = s.irqIn := rfl
@[simp] theorem setPads_stepNo (s : State) (v : Pads) : (s.setPads v).stepNo = s.stepNo := rfl
@[simp] theorem setPads_draws (s : State) (v : Pads) : (s.setPads v).draws = s.draws := rfl

@[simp] theorem setIrqIn_a (s : State) (v : List Bool) : (s.setIrqIn v).a = s.a := rfl
@[simp] theorem setIrqIn_x (s : State) (v : List Bool) : (s.setIrqIn v).x = s.x := rfl
@[simp] theorem setIrqIn_y (s : State) (v : List Bool) : (s.setIrqIn v).y = s.y := rfl
@[simp] theorem setIrqIn_sp (s : State) (v : List Bool) : (s.setIrqIn v).sp = s.sp := rfl
@[simp] theorem setIrqIn_pc (s : State) (v : List Bool) : (s.setIrqIn v).pc = s.pc := rfl
@[simp] theorem setIrqIn_p (s : State) (v : List Bool) : (s.setIrqIn v).p = s.p := rfl
@[simp] theorem setIrqIn_pageCrossed (s : State) (v : List Bool) : (s.setIrqIn v).pageCrossed = s.pageCrossed := rfl
@[simp] theorem setIrqIn_branchTaken (s : State) (v : List Bool) : (s.setIrqIn v).branchTaken = s.branchTaken := rfl
@[simp] theorem setIrqIn_dmaStall (s : State) (v : List Bool) : (s.setIrqIn v).dmaStall = s.dmaStall := rfl
@[simp] theorem setIrqIn_nmiPending (s : State) (v : List Bool) : (s.setIrqIn v).nmiPending = s.nmiPending := rfl
@[simp] theorem setIrqIn_fault (s : State) (v : List Bool) : (s.setIrqIn v).fault = s.fault := rfl
@[simp] theorem setIrqIn_totalCycles (s : State) (v : List Bool) : (s.setIrqIn v).totalCycles = s.totalCycles := rfl
@[simp] theorem setIrqIn_ram (s : State) (v : List Bool) : (s.setIrqIn v).ram = s.ram := rfl
@[simp] theorem setIrqIn_cart (s : State) (v : List Bool) : (s.setIrqIn v).cart = s.cart := rfl
@[simp] theorem setIrqIn_ppu (s : State) (v : List Bool) : (s.setIrqIn v).ppu = s.ppu := rfl
@[simp] theorem setIrqIn_pads (s : State) (v : List Bool) : (s.setIrqIn v).pads = s.pads := rfl
@[simp] theorem setIrqIn_oamDmaStall (s : State) (v : List Bool) : (s.setIrqIn v).oamDmaStall = s.oamDmaStall := rfl
@[simp] theorem setIrqIn_irqIn (s : State) (v : List Bool) : (s.setIrqIn v).irqIn = v := rfl
@[simp] theorem setIrqIn_stepNo (s : State) (v : List Bool) : (s.setIrqIn v).stepNo = s.stepNo := rfl
@[simp] theorem setIrqIn_draws (s : State) (v : List Bool) : (s.setIrqIn v).draws = s.draws := rfl

@[simp] theorem setStepNo_a (s : State) (v : Nat) : (s.setStepNo v).a = s.a := rfl
@[simp] theorem setStepNo_x (s : State) (v : Nat) : (s.setStepNo v).x = s.x := rfl
@[simp] theorem setStepNo_y (s : State) (v : Nat) : (s.setStepNo v).y = s.y := rfl
@[simp] theorem setStepNo_sp (s : State) (v : Nat) : (s.setStepNo v).sp = s.sp := rfl
@[simp] theorem setStepNo_pc (s : State) (v : Nat) : (s.setStepNo v).pc = s.pc := rfl
@[simp] theorem setStepNo_p (s : State) (v : Nat) : (s.setStepNo v).p = s.p := rfl
@[simp] theorem setStepNo_pageCrossed (s : State) (v : Nat) : (s.setStepNo v).pageCrossed = s.pageCrossed := rfl
@[simp] theorem setStepNo_branchTaken (s : State) (v : Nat) : (s.setStepNo v).branchTaken = s.branchTaken := rfl
@[simp] theorem setStepNo_dmaStall (s : State) (v : Nat) : (s.setStepNo v).dmaStall = s.dmaStall := rfl
@[simp] theorem setStepNo_nmiPending (s : State) (v : Nat) : (s.setStepNo v).nmiPending = s.nmiPending := rfl
@[simp] theorem setStepNo_fault (s : State) (v : Nat) : (s.setStepNo v).fault = s.fault := rfl
@[simp] theorem setStepNo_totalCycles (s : State) (v : Nat) : (s.setStepNo v).totalCycles = s.totalCycles := rfl
@[simp] theorem setStepNo_ram (s : State) (v : Nat) : (s.setStepNo v).ram = s.ram := rfl
@[simp] theorem setStepNo_cart (s : State) (v : Nat) : (s.setStepNo v).cart = s.cart := rfl
@[simp] theorem setStepNo_ppu (s : State) (v : Nat) : (s.setStepNo v).ppu = s.ppu := rfl
@[simp] theorem setStepNo_pads (s : State) (v : Nat) : (s.setStepNo v).pads = s.pads := rfl
@[simp] theorem setStepNo_oamDmaStall (s : State) (v : Nat) : (s.setStepNo v).oamDmaStall = s.oamDmaStall := rfl
@[simp] theorem setStepNo_irqIn (s : State) (v : Nat) : (s.setStepNo v).irqIn = s.irqIn := rfl
@[simp] theorem setStepNo_stepNo (s : State) (v : Nat) : (s.setStepNo v).stepNo = v := rfl
@[simp] theorem setStepNo_draws (s : State) (v : Nat) : (s.setStepNo v).draws = s.draws := rfl

@[simp] theorem setDraws_a (s : State) (v : Nat) : (s.setDraws v).a = s.a := rfl
@[simp] theorem setDraws_x (s : State) (v : Nat) : (s.setDraws v).x = s.x := rfl
@[simp] theorem setDraws_y (s : State) (v : Nat) : (s.setDraws v).y = s.y := rfl
@[simp] theorem setDraws_sp (s : State) (v : Nat) : (s.setDraws v).sp = s.sp := rfl
@[simp] theorem setDraws_pc (s : State) (v : Nat) : (s.setDraws v).pc = s.pc := rfl
@[simp] theorem setDraws_p (s : State) (v : Nat) : (s.setDraws v).p = s.p := rfl
@[simp] theorem setDraws_pageCrossed (s : State) (v : Nat) : (s.setDraws v).pageCrossed = s.pageCrossed := rfl
@[simp] theorem setDraws_branchTaken (s : State) (v : Nat) : (s.setDraws v).branchTaken = s.branchTaken := rfl
@[simp] theorem setDraws_dmaStall (s : State) (v : Nat) : (s.setDraws v).dmaStall = s.dmaStall := rfl
@[simp] theorem setDraws_nmiPending (s : State) (v : Nat) : (s.setDraws v).nmiPending = s.nmiPending := rfl
@[simp] theorem setDraws_fault (s : State) (v : Nat) : (s.setDraws v).fault = s.fault := rfl
@[simp] theorem setDraws_totalCycles (s : State) (v : Nat) : (s.setDraws v).totalCycles = s.totalCycles := rfl
@[simp] theorem setDraws_ram (s : State) (v : Nat) : (s.setDraws v).ram = s.ram := rfl
@[simp] theorem setDraws_cart (s : State) (v : Nat) : (s.setDraws v).cart = s.cart := rfl
@[simp] theorem setDraws_ppu (s : State) (v : Nat) : (s.setDraws v).ppu = s.ppu := rfl
@[simp] theorem setDraws_pads (s : State) (v : Nat) : (s.setDraws v).pads = s.pads := rfl
@[simp] theorem setDraws_oamDmaStall (s : State) (v : Nat) : (s.setDraws v).oamDmaStall = s.oamDmaStall := rfl
@[simp] theorem setDraws_irqIn (s : State) (v : Nat) : (s.setDraws v).irqIn = s.irqIn := rfl
@[simp] theorem setDraws_stepNo (s : State) (v : Nat) : (s.setDraws v).stepNo = s.stepNo := rfl
@[simp] theorem setDraws_draws (s : State) (v : Nat) : (s.setDraws v).draws = v := rfl

@[simp] theorem updateZN_a (s : State) (v : Byte) : (s.updateZN v).a = s.a := rfl
@[simp] theorem updateZN_x (s : State) (v : Byte) : (s.updateZN v).x = s.x := rfl
@[simp] theorem updateZN_y (s : State) (v : Byte) : (s.updateZN v).y = s.y := rfl
@[simp] theorem updateZN_sp (s : State) (v : Byte) : (s.updateZN v).sp = s.sp := rfl
@[simp] theorem updateZN_pc (s : State) (v : Byte) : (s.updateZN v).pc = s.pc := rfl
@[simp] theorem updateZN_p (s : State) (v : Byte) : (s.updateZN v).p = s.p.updateZN v := rfl
@[simp] theorem updateZN_pageCrossed (s : State) (v : Byte) : (s.updateZN v).pageCrossed = s.pageCrossed := rfl
@[simp] theorem updateZN_branchTaken (s : State) (v : Byte) : (s.updateZN v).branchTaken = s.branchTaken := rfl
@[simp] theorem updateZN_dmaStall (s : State) (v : Byte) : (s.updateZN v).dmaStall = s.dmaStall := rfl
@[simp] theorem updateZN_nmiPending (s : State) (v : Byte) : (s.updateZN v).nmiPending = s.nmiPending := rfl
@[simp] theorem updateZN_fault (s : State) (v : Byte) : (s.updateZN v).fault = s.fault := rfl
@[simp] theorem updateZN_totalCycles (s : State) (v : Byte) : (s.updateZN v).totalCycles = s.totalCycles := rfl
@[simp] theorem updateZN_ram (s : State) (v : Byte) : (s.updateZN v).ram = s.ram := rfl
@[simp] theorem updateZN_cart (s : State) (v : Byte) : (s.updateZN v).cart = s.cart := rfl
@[simp] theorem updateZN_ppu (s : State) (v : Byte) : (s.updateZN v).ppu = s.ppu := rfl
@[simp] theorem updateZN_pads (s : State) (v : Byte) : (s.updateZN v).pads = s.pads := rfl
@[simp] theorem updateZN_oamDmaStall (s : State) (v : Byte) : (s.updateZN v).oamDmaStall = s.oamDmaStall := rfl
@[simp] theorem updateZN_irqIn (s : State) (v : Byte) : (s.updateZN v).irqIn = s.irqIn := rfl
@[simp] theorem updateZN_stepNo (s : State) (v : Byte) : (s.updateZN v).stepNo = s.stepNo := rfl
@[simp] theorem updateZN_draws (s : State) (v : Byte) : (s.updateZN v).draws = s.draws := rfl

@[simp] theorem nextInput_a (s : State) : s.nextInput.a = s.a := rfl
@[simp] theorem nextInput_x (s : State) : s.nextInput.x = s.x := rfl
@[simp] theorem nextInput_y (s : State) : s.nextInput.y = s.y := rfl
@[simp] theorem nextInput_sp (s : State) : s.nextInput.sp = s.sp := rfl
@[simp] theorem nextInput_pc (s : State) : s.nextInput.pc = s.pc := rfl
@[simp] theorem nextInput_p (s : State) : s.nextInput.p = s.p := rfl
@[simp] theorem nextInput_pageCrossed (s : State) : s.nextInput.pageCrossed = s.pageCrossed := rfl
@[simp] theorem nextInput_branchTaken (s : State) : s.nextInput.branchTaken = s.branchTaken := rfl
@[simp] theorem nextInput_dmaStall (s : State) : s.nextInput.dmaStall = s.dmaStall := rfl
@[simp] theorem nextInput_nmiPending (s : State) : s.nextInput.nmiPending = s.nmiPending := rfl
@[simp] theorem nextInput_fault (s : State) : s.nextInput.fault = s.fault := rfl
@[simp] theorem nextInput_totalCycles (s : State) : s.nextInput.totalCycles = s.totalCycles := rfl
@[simp] theorem nextInput_ram (s : State) : s.nextInput.ram = s.ram := rfl
@[simp] theorem nextInput_cart (s : State) : s.nextInput.cart = s.cart := rfl
@[simp] theorem nextInput_ppu (s : State) : s.nextInput.ppu = s.ppu := rfl
@[simp] theorem nextInput_pads (s : State) : s.nextInput.pads = s.pads := rfl
@[simp] theorem nextInput_oamDmaStall (s : State) : s.nextInput.oamDmaStall = s.oamDmaStall := rfl
@[simp] theorem nextInput_irqIn (s : State) : s.nextInput.irqIn = s.irqIn.tail := rfl
@[simp] theorem nextInput_stepNo (s : State) : s.nextInput.stepNo = s.stepNo + 1 := rfl
@[simp] theorem nextInput_draws (s : State) : s.nextInput.draws = s.draws := rfl

@[simp] theorem draw_snd_a (s : State) : s.draw.2.a = s.a := rfl
@[simp] theorem draw_snd_x (s : State) : s.draw.2.x = s.x := rfl
@[simp] theorem draw_snd_y (s : State) : s.draw.2.y = s.y := rfl
@[simp] theorem draw_snd_sp (s : State) : s.draw.2.sp = s.sp := rfl
@[simp] theorem draw_snd_pc (s : State) : s.draw.2.pc = s.pc := rfl
@[simp] theorem draw_snd_p (s : State) : s.draw.2.p = s.p := rfl
@[simp] theorem draw_snd_pageCrossed (s : State) : s.draw.2.pageCrossed = s.pageCrossed := rfl
@[simp] theorem draw_snd_branchTaken (s : State) : s.draw.2.branchTaken = s.branchTaken := rfl
@[simp] theorem draw_snd_dmaStall (s : State) : s.draw.2.dmaStall = s.dmaStall := rfl
@[simp] theorem draw_snd_nmiPending (s : State) : s.draw.2.nmiPending = s.nmiPending := rfl
@[simp] theorem draw_snd_fault (s : State) : s.draw.2.fault = s.fault := rfl
@[simp] theorem draw_snd_totalCycles (s : State) : s.draw.2.totalCycles = s.totalCycles := rfl
@[simp] theorem draw_snd_ram (s : State) : s.draw.2.ram = s.ram := rfl
@[simp] theorem draw_snd_cart (s : State) : s.draw.2.cart = s.cart := rfl
@[simp] theorem draw_snd_ppu (s : State) : s.draw.2.ppu = s.ppu := rfl
@[simp] theorem draw_snd_pads (s : State) : s.draw.2.pads = s.pads := rfl
@[simp] theorem draw_snd_oamDmaStall (s : State) : s.draw.2.oamDmaStall = s.oamDmaStall := rfl
@[simp] theorem draw_snd_irqIn (s : State) : s.draw.2.irqIn = s.irqIn := rfl
@[simp] theorem draw_snd_stepNo (s : State) : s.draw.2.stepNo = s.stepNo := rfl
@[simp] theorem draw_snd_draws (s : State) : s.draw.2.draws = s.draws + 1 := rfl

@[simp] theorem draw_fst (s : State) : s.draw.1 = Config.draw s.draws := rfl

/-- Two states with equal fields are equal. -/
theorem State.ext_fields {s t : State} (ha : s.a = t.a) (hx : s.x = t.x) (hy : s.y = t.y) (hsp : s.sp = t.sp)
    (hpc : s.pc = t.pc) (hp : s.p = t.p) (hpg : s.pageCrossed = t.pageCrossed) (hbr : s.branchTaken = t.branchTaken)
    (hst : s.dmaStall = t.dmaStall) (hnm : s.nmiPending = t.nmiPending) (hf : s.fault = t.fault)
    (hcy : s.totalCycles = t.totalCycles) (hram : s.ram = t.ram) (hcart : s.cart = t.cart) (hppu : s.ppu = t.ppu)
    (hpads : s.pads = t.pads) (hod : s.oamDmaStall = t.oamDmaStall) (hiq : s.irqIn = t.irqIn)
    (hsn : s.stepNo = t.stepNo) (hdr : s.draws = t.draws) : s = t := by
  cases s; cases t; simp_all

end Sys2Proof.Machine
end

