-- ==== Sys2Proof/Laws/Bus.lean ====
section
/-! SUPPORT. What a bus access can do, said once: a read changes no register and no memory, a write changes no CPU
register; the accesses of RAM and of the stack in closed form. -/

namespace Sys2Proof.Machine

@[simp] theorem updateNmiOut_a (s : State) : (updateNmiOut s).a = s.a := rfl
@[simp] theorem updateNmiOut_x (s : State) : (updateNmiOut s).x = s.x := rfl
@[simp] theorem updateNmiOut_y (s : State) : (updateNmiOut s).y = s.y := rfl
@[simp] theorem updateNmiOut_sp (s : State) : (updateNmiOut s).sp = s.sp := rfl
@[simp] theorem updateNmiOut_pc (s : State) : (updateNmiOut s).pc = s.pc := rfl
@[simp] theorem updateNmiOut_p (s : State) : (updateNmiOut s).p = s.p := rfl
@[simp] theorem updateNmiOut_pageCrossed (s : State) : (updateNmiOut s).pageCrossed = s.pageCrossed := rfl
@[simp] theorem updateNmiOut_branchTaken (s : State) : (updateNmiOut s).branchTaken = s.branchTaken := rfl
@[simp] theorem updateNmiOut_dmaStall (s : State) : (updateNmiOut s).dmaStall = s.dmaStall := rfl
@[simp] theorem updateNmiOut_fault (s : State) : (updateNmiOut s).fault = s.fault := rfl
@[simp] theorem updateNmiOut_totalCycles (s : State) : (updateNmiOut s).totalCycles = s.totalCycles := rfl
@[simp] theorem updateNmiOut_ram (s : State) : (updateNmiOut s).ram = s.ram := rfl
@[simp] theorem updateNmiOut_cart (s : State) : (updateNmiOut s).cart = s.cart := rfl
@[simp] theorem updateNmiOut_pads (s : State) : (updateNmiOut s).pads = s.pads := rfl
@[simp] theorem updateNmiOut_oamDmaStall (s : State) : (updateNmiOut s).oamDmaStall = s.oamDmaStall := rfl
@[simp] theorem updateNmiOut_irqIn (s : State) : (updateNmiOut s).irqIn = s.irqIn := rfl
@[simp] theorem updateNmiOut_stepNo (s : State) : (updateNmiOut s).stepNo = s.stepNo := rfl
@[simp] theorem updateNmiOut_draws (s : State) : (updateNmiOut s).draws = s.draws := rfl
@[simp] theorem updateNmiOut_ppu (s : State) :
    (updateNmiOut s).ppu = { s.ppu with nmiOut := s.ppu.vblank && s.ppu.ctrl.getLsbD 7 } := rfl
theorem updateNmiOut_nmiPending (s : State) : (updateNmiOut s).nmiPending =
    (s.nmiPending || (s.ppu.vblank && s.ppu.ctrl.getLsbD 7 && !s.ppu.nmiOut)) := rfl

@[simp] theorem refresh_ctrl (m v : Byte) (u : Ppu) : (u.refresh m v).ctrl = u.ctrl := rfl
@[simp] theorem refresh_mask (m v : Byte) (u : Ppu) : (u.refresh m v).mask = u.mask := rfl
@[simp] theorem refresh_vblank (m v : Byte) (u : Ppu) : (u.refresh m v).vblank = u.vblank := rfl
@[simp] theorem refresh_sprite0Hit (m v : Byte) (u : Ppu) : (u.refresh m v).sprite0Hit = u.sprite0Hit := rfl
@[simp] theorem refresh_spriteOverflow (m v : Byte) (u : Ppu) : (u.refresh m v).spriteOverflow = u.spriteOverflow := rfl
@[simp] theorem refresh_oamAddr (m v : Byte) (u : Ppu) : (u.refresh m v).oamAddr = u.oamAddr := rfl
@[simp] theorem refresh_oam (m v : Byte) (u : Ppu) : (u.refresh m v).oam = u.oam := rfl
@[simp] theorem refresh_secondary (m v : Byte) (u : Ppu) : (u.refresh m v).secondary = u.secondary := rfl
@[simp] theorem refresh_v (m v : Byte) (u : Ppu) : (u.refresh m v).v = u.v := rfl
@[simp] theorem refresh_t (m v : Byte) (u : Ppu) : (u.refresh m v).t = u.t := rfl
@[simp] theorem refresh_fineX (m v : Byte) (u : Ppu) : (u.refresh m v).fineX = u.fineX := rfl
@[simp] theorem refresh_w (m v : Byte) (u : Ppu) : (u.refresh m v).w = u.w := rfl
@[simp] theorem refresh_readBuffer (m v : Byte) (u : Ppu) : (u.refresh m v).readBuffer = u.readBuffer := rfl
@[simp] theorem refresh_vram (m v : Byte) (u : Ppu) : (u.refresh m v).vram = u.vram := rfl
@[simp] theorem refresh_palette (m v : Byte) (u : Ppu) : (u.refresh m v).palette = u.palette := rfl
@[simp] theorem refresh_scanline (m v : Byte) (u : Ppu) : (u.refresh m v).scanline = u.scanline := rfl
@[simp] theorem refresh_cycle (m v : Byte) (u : Ppu) : (u.refresh m v).cycle = u.cycle := rfl
@[simp] theorem refresh_dmaActive (m v : Byte) (u : Ppu) : (u.refresh m v).dmaActive = u.dmaActive := rfl
@[simp] theorem refresh_nmiOut (m v : Byte) (u : Ppu) : (u.refresh m v).nmiOut = u.nmiOut := rfl
@[simp] theorem refresh_frame (m v : Byte) (u : Ppu) : (u.refresh m v).frame = u.frame := rfl
@[simp] theorem refresh_ob (m v : Byte) (u : Ppu) : (u.refresh m v).ob = mergeBits m v u.ob := rfl

@[simp] theorem incrementV_ctrl (u : Ppu) : u.incrementV.ctrl = u.ctrl := rfl
@[simp] theorem incrementV_mask (u : Ppu) : u.incrementV.mask = u.mask := rfl
@[simp] theorem incrementV_vblank (u : Ppu) : u.incrementV.vblank = u.vblank := rfl
@[simp] theorem incrementV_sprite0Hit (u : Ppu) : u.incrementV.sprite0Hit = u.sprite0Hit := rfl
@[simp] theorem incrementV_spriteOverflow (u : Ppu) : u.incrementV.spriteOverflow = u.spriteOverflow := rfl
@[simp] theorem incrementV_oamAddr (u : Ppu) : u.incrementV.oamAddr = u.oamAddr := rfl
@[simp] theorem incrementV_oam (u : Ppu) : u.incrementV.oam = u.oam := rfl
@[simp] theorem incrementV_secondary (u : Ppu) : u.incrementV.secondary = u.secondary := rfl
@[simp] theorem incrementV_t (u : Ppu) : u.incrementV.t = u.t := rfl
@[simp] theorem incrementV_fineX (u : Ppu) : u.incrementV.fineX = u.fineX := rfl
@[simp] theorem incrementV_w (u : Ppu) : u.incrementV.w = u.w := rfl
@[simp] theorem incrementV_readBuffer (u : Ppu) : u.incrementV.readBuffer = u.readBuffer := rfl
@[simp] theorem incrementV_vram (u : Ppu) : u.incrementV.vram = u.vram := rfl
@[simp] theorem incrementV_palette (u : Ppu) : u.incrementV.palette = u.palette := rfl
@[simp] theorem incrementV_scanline (u : Ppu) : u.incrementV.scanline = u.scanline := rfl
@[simp] theorem incrementV_cycle (u : Ppu) : u.incrementV.cycle = u.cycle := rfl
@[simp] theorem incrementV_dmaActive (u : Ppu) : u.incrementV.dmaActive = u.dmaActive := rfl
@[simp] theorem incrementV_nmiOut (u : Ppu) : u.incrementV.nmiOut = u.nmiOut := rfl
@[simp] theorem incrementV_frame (u : Ppu) : u.incrementV.frame = u.frame := rfl
@[simp] theorem incrementV_ob (u : Ppu) : u.incrementV.ob = u.ob := rfl
@[simp] theorem incrementV_obTimers (u : Ppu) : u.incrementV.obTimers = u.obTimers := rfl

@[simp] theorem ppuReadReg_a (r : PpuReg) (s : State) : (ppuReadReg r s).2.a = s.a := by
  cases r <;> simp [ppuReadReg, readStatus, readOamData, readData]
  split <;> simp
@[simp] theorem ppuReadReg_x (r : PpuReg) (s : State) : (ppuReadReg r s).2.x = s.x := by
  cases r <;> simp [ppuReadReg, readStatus, readOamData, readData]
  split <;> simp
@[simp] theorem ppuReadReg_y (r : PpuReg) (s : State) : (ppuReadReg r s).2.y = s.y := by
  cases r <;> simp [ppuReadReg, readStatus, readOamData, readData]
  split <;> simp
@[simp] theorem ppuReadReg_sp (r : PpuReg) (s : State) : (ppuReadReg r s).2.sp = s.sp := by
  cases r <;> simp [ppuReadReg, readStatus, readOamData, readData]
  split <;> simp
@[simp] theorem ppuReadReg_pc (r : PpuReg) (s : State) : (ppuReadReg r s).2.pc = s.pc := by
  cases r <;> simp [ppuReadReg, readStatus, readOamData, readData]
  split <;> simp
@[simp] theorem ppuReadReg_p (r : PpuReg) (s : State) : (ppuReadReg r s).2.p = s.p := by
  cases r <;> simp [ppuReadReg, readStatus, readOamData, readData]
  split <;> simp
@[simp] theorem ppuReadReg_pageCrossed (r : PpuReg) (s : State) : (ppuReadReg r s).2.pageCrossed = s.pageCrossed := by
  cases r <;> simp [ppuReadReg, readStatus, readOamData, readData]
  split <;> simp
@[simp] theorem ppuReadReg_branchTaken (r : PpuReg) (s : State) : (ppuReadReg r s).2.branchTaken = s.branchTaken := by
  cases r <;> simp [ppuReadReg, readStatus, readOamData, readData]
  split <;> simp
@[simp] theorem ppuReadReg_dmaStall (r : PpuReg) (s : State) : (ppuReadReg r s).2.dmaStall = s.dmaStall := by
  cases r <;> simp [ppuReadReg, readStatus, readOamData, readData]
  split <;> simp
@[simp] theorem ppuReadReg_nmiPending (r : PpuReg) (s : State) : (ppuReadReg r s).2.nmiPending = s.nmiPending := by
  cases r <;> simp [ppuReadReg, readStatus, readOamData, readData, updateNmiOut_nmiPending]
  split <;> simp
@[simp] theorem ppuReadReg_fault (r : PpuReg) (s : State) : (ppuReadReg r s).2.fault = s.fault := by
  cases r <;> simp [ppuReadReg, readStatus, readOamData, readData]
  split <;> simp
@[simp] theorem ppuReadReg_totalCycles (r : PpuReg) (s : State) : (ppuReadReg r s).2.totalCycles = s.totalCycles := by
  cases r <;> simp [ppuReadReg, readStatus, readOamData, readData]
  split <;> simp
@[simp] theorem ppuReadReg_ram (r : PpuReg) (s : State) : (ppuReadReg r s).2.ram = s.ram := by
  cases r <;> simp [ppuReadReg, readStatus, readOamData, readData]
  split <;> simp
@[simp] theorem ppuReadReg_cart (r : PpuReg) (s : State) : (ppuReadReg r s).2.cart = s.cart := by
  cases r <;> simp [ppuReadReg, readStatus, readOamData, readData]
  split <;> simp
@[simp] theorem ppuReadReg_oamDmaStall (r : PpuReg) (s : State) : (ppuReadReg r s).2.oamDmaStall = s.oamDmaStall := by
  cases r <;> simp [ppuReadReg, readStatus, readOamData, readData]
  split <;> simp
@[simp] theorem ppuReadReg_irqIn (r : PpuReg) (s : State) : (ppuReadReg r s).2.irqIn = s.irqIn := by
  cases r <;> simp [ppuReadReg, readStatus, readOamData, readData]
  split <;> simp
@[simp] theorem ppuReadReg_stepNo (r : PpuReg) (s : State) : (ppuReadReg r s).2.stepNo = s.stepNo := by
  cases r <;> simp [ppuReadReg, readStatus, readOamData, readData]
  split <;> simp
@[simp] theorem ppuReadReg_pads (r : PpuReg) (s : State) : (ppuReadReg r s).2.pads = s.pads := by
  cases r <;> simp [ppuReadReg, readStatus, readOamData, readData]
  split <;> simp

@[simp] theorem ppuReadReg_ppu_ctrl (r : PpuReg) (s : State) : (ppuReadReg r s).2.ppu.ctrl = s.ppu.ctrl := by
  cases r <;> simp [ppuReadReg, readStatus, readOamData, readData]
  split <;> simp
@[simp] theorem ppuReadReg_ppu_mask (r : PpuReg) (s : State) : (ppuReadReg r s).2.ppu.mask = s.ppu.mask := by
  cases r <;> simp [ppuReadReg, readStatus, readOamData, readData]
  split <;> simp
@[simp] theorem ppuReadReg_ppu_sprite0Hit (r : PpuReg) (s : State) : (ppuReadReg r s).2.ppu.sprite0Hit = s.ppu.sprite0Hit := by
  cases r <;> simp [ppuReadReg, readStatus, readOamData, readData]
  split <;> simp
@[simp] theorem ppuReadReg_ppu_spriteOverflow (r : PpuReg) (s : State) : (ppuReadReg r s).2.ppu.spriteOverflow = s.ppu.spriteOverflow := by
  cases r <;> simp [ppuReadReg, readStatus, readOamData, readData]
  split <;> simp
@[simp] theorem ppuReadReg_ppu_oamAddr (r : PpuReg) (s : State) : (ppuReadReg r s).2.ppu.oamAddr = s.ppu.oamAddr := by
  cases r <;> simp [ppuReadReg, readStatus, readOamData, readData]
  split <;> simp
@[simp] theorem ppuReadReg_ppu_oam (r : PpuReg) (s : State) : (ppuReadReg r s).2.ppu.oam = s.ppu.oam := by
  cases r <;> simp [ppuReadReg, readStatus, readOamData, readData]
  split <;> simp
@[simp] theorem ppuReadReg_ppu_secondary (r : PpuReg) (s : State) : (ppuReadReg r s).2.ppu.secondary = s.ppu.secondary := by
  cases r <;> simp [ppuReadReg, readStatus, readOamData, readData]
  split <;> simp
@[simp] theorem ppuReadReg_ppu_t (r : PpuReg) (s : State) : (ppuReadReg r s).2.ppu.t = s.ppu.t := by
  cases r <;> simp [ppuReadReg, readStatus, readOamData, readData]
  split <;> simp
@[simp] theorem ppuReadReg_ppu_fineX (r : PpuReg) (s : State) : (ppuReadReg r s).2.ppu.fineX = s.ppu.fineX := by
  cases r <;> simp [ppuReadReg, readStatus, readOamData, readData]
  split <;> simp
@[simp] theorem ppuReadReg_ppu_vram (r : PpuReg) (s : State) : (ppuReadReg r s).2.ppu.vram = s.ppu.vram := by
  cases r <;> simp [ppuReadReg, readStatus, readOamData, readData]
  split <;> simp
@[simp] theorem ppuReadReg_ppu_palette (r : PpuReg) (s : State) : (ppuReadReg r s).2.ppu.palette = s.ppu.palette := by
  cases r <;> simp [ppuReadReg, readStatus, readOamData, readData]
  split <;> simp
@[simp] theorem ppuReadReg_ppu_scanline (r : PpuReg) (s : State) : (ppuReadReg r s).2.ppu.scanline = s.ppu.scanline := by
  cases r <;> simp [ppuReadReg, readStatus, readOamData, readData]
  split <;> simp
@[simp] theorem ppuReadReg_ppu_cycle (r : PpuReg) (s : State) : (ppuReadReg r s).2.ppu.cycle = s.ppu.cycle := by
  cases r <;> simp [ppuReadReg, readStatus, readOamData, readData]
  split <;> simp
@[simp] theorem ppuReadReg_ppu_dmaActive (r : PpuReg) (s : State) : (ppuReadReg r s).2.ppu.dmaActive = s.ppu.dmaActive := by
  cases r <;> simp [ppuReadReg, readStatus, readOamData, readData]
  split <;> simp
@[simp] theorem ppuReadReg_ppu_frame (r : PpuReg) (s : State) : (ppuReadReg r s).2.ppu.frame = s.ppu.frame := by
  cases r <;> simp [ppuReadReg, readStatus, readOamData, readData]
  split <;> simp

/-- A read leaves `a` unchanged. -/
@[simp] theorem memRead_a (addr : Word) (s : State) : (memRead addr s).2.a = s.a := by
  unfold memRead; split <;> simp [padByte]
/-- A read leaves `x` unchanged. -/
@[simp] theorem memRead_x (addr : Word) (s : State) : (memRead addr s).2.x = s.x := by
  unfold memRead; split <;> simp [padByte]
/-- A read leaves `y` unchanged. -/
@[simp] theorem memRead_y (addr : Word) (s : State) : (memRead addr s).2.y = s.y := by
  unfold memRead; split <;> simp [padByte]
/-- A read leaves `sp` unchanged. -/
@[simp] theorem memRead_sp (addr : Word) (s : State) : (memRead addr s).2.sp = s.sp := by
  unfold memRead; split <;> simp [padByte]
/-- A read leaves `pc` unchanged. -/
@[simp] theorem memRead_pc (addr : Word) (s : State) : (memRead addr s).2.pc = s.pc := by
  unfold memRead; split <;> simp [padByte]
/-- A read leaves `p` unchanged. -/
@[simp] theorem memRead_p (addr : Word) (s : State) : (memRead addr s).2.p = s.p := by
  unfold memRead; split <;> simp [padByte]
/-- A read leaves `pageCrossed` unchanged. -/
@[simp] theorem memRead_pageCrossed (addr : Word) (s : State) : (memRead addr s).2.pageCrossed = s.pageCrossed := by
  unfold memRead; split <;> simp [padByte]
/-- A read leaves `branchTaken` unchanged. -/
@[simp] theorem memRead_branchTaken (addr : Word) (s : State) : (memRead addr s).2.branchTaken = s.branchTaken := by
  unfold memRead; split <;> simp [padByte]
/-- A read leaves `dmaStall` unchanged. -/
@[simp] theorem memRead_dmaStall (addr : Word) (s : State) : (memRead addr s).2.dmaStall = s.dmaStall := by
  unfold memRead; split <;> simp [padByte]
/-- A read leaves `nmiPending` unchanged. -/
@[simp] theorem memRead_nmiPending (addr : Word) (s : State) : (memRead addr s).2.nmiPending = s.nmiPending := by
  unfold memRead; split <;> simp [padByte]
/-- A read leaves `fault` unchanged. -/
@[simp] theorem memRead_fault (addr : Word) (s : State) : (memRead addr s).2.fault = s.fault := by
  unfold memRead; split <;> simp [padByte]
/-- A read leaves `totalCycles` unchanged. -/
@[simp] theorem memRead_totalCycles (addr : Word) (s : State) : (memRead addr s).2.totalCycles = s.totalCycles := by
  unfold memRead; split <;> simp [padByte]
/-- A read leaves `ram` unchanged. -/
@[simp] theorem memRead_ram (addr : Word) (s : State) : (memRead addr s).2.ram = s.ram := by
  unfold memRead; split <;> simp [padByte]
/-- A read leaves `cart` unchanged. -/
@[simp] theorem memRead_cart (addr : Word) (s : State) : (memRead addr s).2.cart = s.cart := by
  unfold memRead; split <;> simp [padByte]
/-- A read leaves `oamDmaStall` unchanged. -/
@[simp] theorem memRead_oamDmaStall (addr : Word) (s : State) : (memRead addr s).2.oamDmaStall = s.oamDmaStall := by
  unfold memRead; split <;> simp [padByte]
/-- A read leaves `irqIn` unchanged. -/
@[simp] theorem memRead_irqIn (addr : Word) (s : State) : (memRead addr s).2.irqIn = s.irqIn := by
  unfold memRead; split <;> simp [padByte]
/-- A read leaves `stepNo` unchanged. -/
@[simp] theorem memRead_stepNo (addr : Word) (s : State) : (memRead addr s).2.stepNo = s.stepNo := by
  unfold memRead; split <;> simp [padByte]

/-- A read leaves the PPU's `ctrl` unchanged. -/
@[simp] theorem memRead_ppu_ctrl (addr : Word) (s : State) : (memRead addr s).2.ppu.ctrl = s.ppu.ctrl := by
  unfold memRead; split <;> simp [padByte]
/-- A read leaves the PPU's `mask` unchanged. -/
@[simp] theorem memRead_ppu_mask (addr : Word) (s : State) : (memRead addr s).2.ppu.mask = s.ppu.mask := by
  unfold memRead; split <;> simp [padByte]
/-- A read leaves the PPU's `sprite0Hit` unchanged. -/
@[simp] theorem memRead_ppu_sprite0Hit (addr : Word) (s : State) : (memRead addr s).2.ppu.sprite0Hit = s.ppu.sprite0Hit := by
  unfold memRead; split <;> simp [padByte]
/-- A read leaves the PPU's `spriteOverflow` unchanged. -/
@[simp] theorem memRead_ppu_spriteOverflow (addr : Word) (s : State) : (memRead addr s).2.ppu.spriteOverflow = s.ppu.spriteOverflow := by
  unfold memRead; split <;> simp [padByte]
/-- A read leaves the PPU's `oamAddr` unchanged. -/
@[simp] theorem memRead_ppu_oamAddr (addr : Word) (s : State) : (memRead addr s).2.ppu.oamAddr = s.ppu.oamAddr := by
  unfold memRead; split <;> simp [padByte]
/-- A read leaves the PPU's `oam` unchanged. -/
@[simp] theorem memRead_ppu_oam (addr : Word) (s : State) : (memRead addr s).2.ppu.oam = s.ppu.oam := by
  unfold memRead; split <;> simp [padByte]
/-- A read leaves the PPU's `secondary` unchanged. -/
@[simp] theorem memRead_ppu_secondary (addr : Word) (s : State) : (memRead addr s).2.ppu.secondary = s.ppu.secondary := by
  unfold memRead; split <;> simp [padByte]
/-- A read leaves the PPU's `t` unchanged. -/
@[simp] theorem memRead_ppu_t (addr : Word) (s : State) : (memRead addr s).2.ppu.t = s.ppu.t := by
  unfold memRead; split <;> simp [padByte]
/-- A read leaves the PPU's `fineX` unchanged. -/
@[simp] theorem memRead_ppu_fineX (addr : Word) (s : State) : (memRead addr s).2.ppu.fineX = s.ppu.fineX := by
  unfold memRead; split <;> simp [padByte]
/-- A read leaves the PPU's `vram` unchanged. -/
@[simp] theorem memRead_ppu_vram (addr : Word) (s : State) : (memRead addr s).2.ppu.vram = s.ppu.vram := by
  unfold memRead; split <;> simp [padByte]
/-- A read leaves the PPU's `palette` unchanged. -/
@[simp] theorem memRead_ppu_palette (addr : Word) (s : State) : (memRead addr s).2.ppu.palette = s.ppu.palette := by
  unfold memRead; split <;> simp [padByte]
/-- A read leaves the PPU's `scanline` unchanged. -/
@[simp] theorem memRead_ppu_scanline (addr : Word) (s : State) : (memRead addr s).2.ppu.scanline = s.ppu.scanline := by
  unfold memRead; split <;> simp [padByte]
/-- A read leaves the PPU's `cycle` unchanged. -/
@[simp] theorem memRead_ppu_cycle (addr : Word) (s : State) : (memRead addr s).2.ppu.cycle = s.ppu.cycle := by
  unfold memRead; split <;> simp [padByte]
/-- A read leaves the PPU's `dmaActive` unchanged. -/
@[simp] theorem memRead_ppu_dmaActive (addr : Word) (s : State) : (memRead addr s).2.ppu.dmaActive = s.ppu.dmaActive := by
  unfold memRead; split <;> simp [padByte]
/-- A read leaves the PPU's `frame` unchanged. -/
@[simp] theorem memRead_ppu_frame (addr : Word) (s : State) : (memRead addr s).2.ppu.frame = s.ppu.frame := by
  unfold memRead; split <;> simp [padByte]

/-- A read leaves every byte of memory unchanged. -/
@[simp] theorem memRead_peek (addr b : Word) (s : State) : (memRead addr s).2.peek b = s.peek b := by
  simp [State.peek, State.device]

/-- A read where memory answers gives its byte and has no effect. -/
theorem memRead_of_peek {addr : Word} {s : State} {v : Byte} (h : s.peek addr = some v) :
    memRead addr s = (v, s) := by
  unfold State.peek at h
  unfold memRead
  split at h <;> simp_all

/-- RAM answers below 0x2000. -/
theorem device_ram {addr : Word} (s : State) (h : addr.toNat < 0x2000) :
    s.device addr = .ram (addr.toNat % 0x0800) := by
  simp [State.device, busDevice, h]

/-- The cartridge answers from 0x8000 on. -/
theorem device_cartridge {addr : Word} (s : State) (h : 0x8000 ≤ addr.toNat) : s.device addr = .cartridge := by
  have h1 : ¬ addr.toNat < 0x2000 := by omega
  have h2 : ¬ addr.toNat < 0x4000 := by omega
  have h3 : ¬ addr.toNat = 0x4014 := by omega
  have h4 : ¬ addr.toNat = 0x4016 := by omega
  have h5 : ¬ addr.toNat = 0x4017 := by omega
  have h6 : ¬ addr.toNat < 0x4016 := by omega
  have h7 : ¬ addr.toNat < 0x6000 := by omega
  have h8 : ¬ addr.toNat < 0x8000 := by omega
  simp [State.device, busDevice, h1, h2, h3, h4, h5, h6, h7, h8]

theorem memRead_of_ram {addr : Word} (s : State) (h : addr.toNat < 0x2000) :
    memRead addr s = (s.ram.read (addr.toNat % 0x0800), s) := by
  simp [memRead, device_ram s h]

theorem memRead_of_cartridge {addr : Word} (s : State) (h : 0x8000 ≤ addr.toNat) :
    memRead addr s = (s.cart.read addr.toNat, s) := by
  simp [memRead, device_cartridge s h]

theorem memWrite_of_ram {addr : Word} (v : Byte) (s : State) (h : addr.toNat < 0x2000) :
    memWrite addr v s = s.setRam (s.ram.write (addr.toNat % 0x0800) v) := by
  simp [memWrite, device_ram s h]

theorem peek_of_ram {addr : Word} (s : State) (h : addr.toNat < 0x2000) :
    s.peek addr = some (s.ram.read (addr.toNat % 0x0800)) := by
  simp [State.peek, device_ram s h]

theorem peek_of_cartridge {addr : Word} (s : State) (h : 0x8000 ≤ addr.toNat) :
    s.peek addr = some (s.cart.read addr.toNat) := by
  simp [State.peek, device_cartridge s h]

@[simp] theorem ppuWrite_a (addr : Word) (v : Byte) (s : State) : (ppuWrite addr v s).a = s.a := by
  unfold ppuWrite; simp only; split
  · rfl
  · split <;> rfl
@[simp] theorem ppuWrite_x (addr : Word) (v : Byte) (s : State) : (ppuWrite addr v s).x = s.x := by
  unfold ppuWrite; simp only; split
  · rfl
  · split <;> rfl
@[simp] theorem ppuWrite_y (addr : Word) (v : Byte) (s : State) : (ppuWrite addr v s).y = s.y := by
  unfold ppuWrite; simp only; split
  · rfl
  · split <;> rfl
@[simp] theorem ppuWrite_sp (addr : Word) (v : Byte) (s : State) : (ppuWrite addr v s).sp = s.sp := by
  unfold ppuWrite; simp only; split
  · rfl
  · split <;> rfl
@[simp] theorem ppuWrite_pc (addr : Word) (v : Byte) (s : State) : (ppuWrite addr v s).pc = s.pc := by
  unfold ppuWrite; simp only; split
  · rfl
  · split <;> rfl
@[simp] theorem ppuWrite_p (addr : Word) (v : Byte) (s : State) : (ppuWrite addr v s).p = s.p := by
  unfold ppuWrite; simp only; split
  · rfl
  · split <;> rfl
@[simp] theorem ppuWrite_pageCrossed (addr : Word) (v : Byte) (s : State) : (ppuWrite addr v s).pageCrossed = s.pageCrossed := by
  unfold ppuWrite; simp only; split
  · rfl
  · split <;> rfl
@[simp] theorem ppuWrite_branchTaken (addr : Word) (v : Byte) (s : State) : (ppuWrite addr v s).branchTaken = s.branchTaken := by
  unfold ppuWrite; simp only; split
  · rfl
  · split <;> rfl
@[simp] theorem ppuWrite_dmaStall (addr : Word) (v : Byte) (s : State) : (ppuWrite addr v s).dmaStall = s.dmaStall := by
  unfold ppuWrite; simp only; split
  · rfl
  · split <;> rfl
@[simp] theorem ppuWrite_nmiPending (addr : Word) (v : Byte) (s : State) : (ppuWrite addr v s).nmiPending = s.nmiPending := by
  unfold ppuWrite; simp only; split
  · rfl
  · split <;> rfl
@[simp] theorem ppuWrite_fault (addr : Word) (v : Byte) (s : State) : (ppuWrite addr v s).fault = s.fault := by
  unfold ppuWrite; simp only; split
  · rfl
  · split <;> rfl
@[simp] theorem ppuWrite_totalCycles (addr : Word) (v : Byte) (s : State) : (ppuWrite addr v s).totalCycles = s.totalCycles := by
  unfold ppuWrite; simp only; split
  · rfl
  · split <;> rfl
@[simp] theorem ppuWrite_ram (addr : Word) (v : Byte) (s : State) : (ppuWrite addr v s).ram = s.ram := by
  unfold ppuWrite; simp only; split
  · rfl
  · split <;> rfl
@[simp] theorem ppuWrite_pads (addr : Word) (v : Byte) (s : State) : (ppuWrite addr v s).pads = s.pads := by
  unfold ppuWrite; simp only; split
  · rfl
  · split <;> rfl
@[simp] theorem ppuWrite_oamDmaStall (addr : Word) (v : Byte) (s : State) : (ppuWrite addr v s).oamDmaStall = s.oamDmaStall := by
  unfold ppuWrite; simp only; split
  · rfl
  · split <;> rfl
@[simp] theorem ppuWrite_irqIn (addr : Word) (v : Byte) (s : State) : (ppuWrite addr v s).irqIn = s.irqIn := by
  unfold ppuWrite; simp only; split
  · rfl
  · split <;> rfl
@[simp] theorem ppuWrite_stepNo (addr : Word) (v : Byte) (s : State) : (ppuWrite addr v s).stepNo = s.stepNo := by
  unfold ppuWrite; simp only; split
  · rfl
  · split <;> rfl
@[simp] theorem ppuWrite_draws (addr : Word) (v : Byte) (s : State) : (ppuWrite addr v s).draws = s.draws := by
  unfold ppuWrite; simp only; split
  · rfl
  · split <;> rfl
@[simp] theorem ppuWrite_ppu_ctrl (addr : Word) (v : Byte) (s : State) : (ppuWrite addr v s).ppu.ctrl = s.ppu.ctrl := by
  unfold ppuWrite; simp only; split
  · rfl
  · split <;> rfl
@[simp] theorem ppuWrite_ppu_mask (addr : Word) (v : Byte) (s : State) : (ppuWrite addr v s).ppu.mask = s.ppu.mask := by
  unfold ppuWrite; simp only; split
  · rfl
  · split <;> rfl
@[simp] theorem ppuWrite_ppu_vblank (addr : Word) (v : Byte) (s : State) : (ppuWrite addr v s).ppu.vblank = s.ppu.vblank := by
  unfold ppuWrite; simp only; split
  · rfl
  · split <;> rfl
@[simp] theorem ppuWrite_ppu_sprite0Hit (addr : Word) (v : Byte) (s : State) : (ppuWrite addr v s).ppu.sprite0Hit = s.ppu.sprite0Hit := by
  unfold ppuWrite; simp only; split
  · rfl
  · split <;> rfl
@[simp] theorem ppuWrite_ppu_spriteOverflow (addr : Word) (v : Byte) (s : State) : (ppuWrite addr v s).ppu.spriteOverflow = s.ppu.spriteOverflow := by
  unfold ppuWrite; simp only; split
  · rfl
  · split <;> rfl
@[simp] theorem ppuWrite_ppu_oamAddr (addr : Word) (v : Byte) (s : State) : (ppuWrite addr v s).ppu.oamAddr = s.ppu.oamAddr := by
  unfold ppuWrite; simp only; split
  · rfl
  · split <;> rfl
@[simp] theorem ppuWrite_ppu_oam (addr : Word) (v : Byte) (s : State) : (ppuWrite addr v s).ppu.oam = s.ppu.oam := by
  unfold ppuWrite; simp only; split
  · rfl
  · split <;> rfl
@[simp] theorem ppuWrite_ppu_secondary (addr : Word) (v : Byte) (s : State) : (ppuWrite addr v s).ppu.secondary = s.ppu.secondary := by
  unfold ppuWrite; simp only; split
  · rfl
  · split <;> rfl
@[simp] theorem ppuWrite_ppu_v (addr : Word) (v : Byte) (s : State) : (ppuWrite addr v s).ppu.v = s.ppu.v := by
  unfold ppuWrite; simp only; split
  · rfl
  · split <;> rfl
@[simp] theorem ppuWrite_ppu_t (addr : Word) (v : Byte) (s : State) : (ppuWrite addr v s).ppu.t = s.ppu.t := by
  unfold ppuWrite; simp only; split
  · rfl
  · split <;> rfl
@[simp] theorem ppuWrite_ppu_fineX (addr : Word) (v : Byte) (s : State) : (ppuWrite addr v s).ppu.fineX = s.ppu.fineX := by
  unfold ppuWrite; simp only; split
  · rfl
  · split <;> rfl
@[simp] theorem ppuWrite_ppu_w (addr : Word) (v : Byte) (s : State) : (ppuWrite addr v s).ppu.w = s.ppu.w := by
  unfold ppuWrite; simp only; split
  · rfl
  · split <;> rfl
@[simp] theorem ppuWrite_ppu_readBuffer (addr : Word) (v : Byte) (s : State) : (ppuWrite addr v s).ppu.readBuffer = s.ppu.readBuffer := by
  unfold ppuWrite; simp only; split
  · rfl
  · split <;> rfl
@[simp] theorem ppuWrite_ppu_scanline (addr : Word) (v : Byte) (s : State) : (ppuWrite addr v s).ppu.scanline = s.ppu.scanline := by
  unfold ppuWrite; simp only; split
  · rfl
  · split <;> rfl
@[simp] theorem ppuWrite_ppu_cycle (addr : Word) (v : Byte) (s : State) : (ppuWrite addr v s).ppu.cycle = s.ppu.cycle := by
  unfold ppuWrite; simp only; split
  · rfl
  · split <;> rfl
@[simp] theorem ppuWrite_ppu_dmaActive (addr : Word) (v : Byte) (s : State) : (ppuWrite addr v s).ppu.dmaActive = s.ppu.dmaActive := by
  unfold ppuWrite; simp only; split
  · rfl
  · split <;> rfl
@[simp] theorem ppuWrite_ppu_nmiOut (addr : Word) (v : Byte) (s : State) : (ppuWrite addr v s).ppu.nmiOut = s.ppu.nmiOut := by
  unfold ppuWrite; simp only; split
  · rfl
  · split <;> rfl
@[simp] theorem ppuWrite_ppu_frame (addr : Word) (v : Byte) (s : State) : (ppuWrite addr v s).ppu.frame = s.ppu.frame := by
  unfold ppuWrite; simp only; split
  · rfl
  · split <;> rfl
@[simp] theorem ppuWrite_ppu_ob (addr : Word) (v : Byte) (s : State) : (ppuWrite addr v s).ppu.ob = s.ppu.ob := by
  unfold ppuWrite; simp only; split
  · rfl
  · split <;> rfl
@[simp] theorem ppuWrite_ppu_obTimers (addr : Word) (v : Byte) (s : State) : (ppuWrite addr v s).ppu.obTimers = s.ppu.obTimers := by
  unfold ppuWrite; simp only; split
  · rfl
  · split <;> rfl
@[simp] theorem writeChr_mapper (c : Cartridge) (a : Nat) (v : Byte) : (c.writeChr a v).mapper = c.mapper := by
  unfold Cartridge.writeChr; split <;> rfl
@[simp] theorem writeChr_prgBanks (c : Cartridge) (a : Nat) (v : Byte) : (c.writeChr a v).prgBanks = c.prgBanks := by
  unfold Cartridge.writeChr; split <;> rfl
@[simp] theorem writeChr_chrBanks (c : Cartridge) (a : Nat) (v : Byte) : (c.writeChr a v).chrBanks = c.chrBanks := by
  unfold Cartridge.writeChr; split <;> rfl
@[simp] theorem writeChr_hasPrgRam (c : Cartridge) (a : Nat) (v : Byte) : (c.writeChr a v).hasPrgRam = c.hasPrgRam := by
  unfold Cartridge.writeChr; split <;> rfl
@[simp] theorem writeChr_verticalMirroring (c : Cartridge) (a : Nat) (v : Byte) : (c.writeChr a v).verticalMirroring = c.verticalMirroring := by
  unfold Cartridge.writeChr; split <;> rfl
@[simp] theorem writeChr_prg (c : Cartridge) (a : Nat) (v : Byte) : (c.writeChr a v).prg = c.prg := by
  unfold Cartridge.writeChr; split <;> rfl
@[simp] theorem writeChr_prgRam (c : Cartridge) (a : Nat) (v : Byte) : (c.writeChr a v).prgRam = c.prgRam := by
  unfold Cartridge.writeChr; split <;> rfl
@[simp] theorem writeChr_mmc1 (c : Cartridge) (a : Nat) (v : Byte) : (c.writeChr a v).mmc1 = c.mmc1 := by
  unfold Cartridge.writeChr; split <;> rfl
@[simp] theorem ppuWrite_cart_mapper (addr : Word) (v : Byte) (s : State) : (ppuWrite addr v s).cart.mapper = s.cart.mapper := by
  unfold ppuWrite; simp only; split
  · simp
  · split <;> rfl
@[simp] theorem ppuWrite_cart_prgBanks (addr : Word) (v : Byte) (s : State) : (ppuWrite addr v s).cart.prgBanks = s.cart.prgBanks := by
  unfold ppuWrite; simp only; split
  · simp
  · split <;> rfl
@[simp] theorem ppuWrite_cart_chrBanks (addr : Word) (v : Byte) (s : State) : (ppuWrite addr v s).cart.chrBanks = s.cart.chrBanks := by
  unfold ppuWrite; simp only; split
  · simp
  · split <;> rfl
@[simp] theorem ppuWrite_cart_hasPrgRam (addr : Word) (v : Byte) (s : State) : (ppuWrite addr v s).cart.hasPrgRam = s.cart.hasPrgRam := by
  unfold ppuWrite; simp only; split
  · simp
  · split <;> rfl
@[simp] theorem ppuWrite_cart_verticalMirroring (addr : Word) (v : Byte) (s : State) : (ppuWrite addr v s).cart.verticalMirroring = s.cart.verticalMirroring := by
  unfold ppuWrite; simp only; split
  · simp
  · split <;> rfl
@[simp] theorem ppuWrite_cart_prg (addr : Word) (v : Byte) (s : State) : (ppuWrite addr v s).cart.prg = s.cart.prg := by
  unfold ppuWrite; simp only; split
  · simp
  · split <;> rfl
@[simp] theorem ppuWrite_cart_prgRam (addr : Word) (v : Byte) (s : State) : (ppuWrite addr v s).cart.prgRam = s.cart.prgRam := by
  unfold ppuWrite; simp only; split
  · simp
  · split <;> rfl
@[simp] theorem ppuWrite_cart_mmc1 (addr : Word) (v : Byte) (s : State) : (ppuWrite addr v s).cart.mmc1 = s.cart.mmc1 := by
  unfold ppuWrite; simp only; split
  · simp
  · split <;> rfl
@[simp] theorem ppuWriteReg_a (r : PpuReg) (v : Byte) (s : State) : (ppuWriteReg r v s).a = s.a := by
  cases r <;> simp [ppuWriteReg, writeCtrl, writeData]
@[simp] theorem ppuWriteReg_x (r : PpuReg) (v : Byte) (s : State) : (ppuWriteReg r v s).x = s.x := by
  cases r <;> simp [ppuWriteReg, writeCtrl, writeData]
@[simp] theorem ppuWriteReg_y (r : PpuReg) (v : Byte) (s : State) : (ppuWriteReg r v s).y = s.y := by
  cases r <;> simp [ppuWriteReg, writeCtrl, writeData]
@[simp] theorem ppuWriteReg_sp (r : PpuReg) (v : Byte) (s : State) : (ppuWriteReg r v s).sp = s.sp := by
  cases r <;> simp [ppuWriteReg, writeCtrl, writeData]
@[simp] theorem ppuWriteReg_pc (r : PpuReg) (v : Byte) (s : State) : (ppuWriteReg r v s).pc = s.pc := by
  cases r <;> simp [ppuWriteReg, writeCtrl, writeData]
@[simp] theorem ppuWriteReg_p (r : PpuReg) (v : Byte) (s : State) : (ppuWriteReg r v s).p = s.p := by
  cases r <;> simp [ppuWriteReg, writeCtrl, writeData]
@[simp] theorem ppuWriteReg_pageCrossed (r : PpuReg) (v : Byte) (s : State) : (ppuWriteReg r v s).pageCrossed = s.pageCrossed := by
  cases r <;> simp [ppuWriteReg, writeCtrl, writeData]
@[simp] theorem ppuWriteReg_branchTaken (r : PpuReg) (v : Byte) (s : State) : (ppuWriteReg r v s).branchTaken = s.branchTaken := by
  cases r <;> simp [ppuWriteReg, writeCtrl, writeData]
@[simp] theorem ppuWriteReg_fault (r : PpuReg) (v : Byte) (s : State) : (ppuWriteReg r v s).fault = s.fault := by
  cases r <;> simp [ppuWriteReg, writeCtrl, writeData]
@[simp] theorem ppuWriteReg_totalCycles (r : PpuReg) (v : Byte) (s : State) : (ppuWriteReg r v s).totalCycles = s.totalCycles := by
  cases r <;> simp [ppuWriteReg, writeCtrl, writeData]
@[simp] theorem ppuWriteReg_oamDmaStall (r : PpuReg) (v : Byte) (s : State) : (ppuWriteReg r v s).oamDmaStall = s.oamDmaStall := by
  cases r <;> simp [ppuWriteReg, writeCtrl, writeData]
@[simp] theorem ppuWriteReg_irqIn (r : PpuReg) (v : Byte) (s : State) : (ppuWriteReg r v s).irqIn = s.irqIn := by
  cases r <;> simp [ppuWriteReg, writeCtrl, writeData]
@[simp] theorem ppuWriteReg_stepNo (r : PpuReg) (v : Byte) (s : State) : (ppuWriteReg r v s).stepNo = s.stepNo := by
  cases r <;> simp [ppuWriteReg, writeCtrl, writeData]
@[simp] theorem ppuWriteReg_dmaStall (r : PpuReg) (v : Byte) (s : State) : (ppuWriteReg r v s).dmaStall = s.dmaStall := by
  cases r <;> simp [ppuWriteReg, writeCtrl, writeData]
@[simp] theorem ppuWriteReg_ram (r : PpuReg) (v : Byte) (s : State) : (ppuWriteReg r v s).ram = s.ram := by
  cases r <;> simp [ppuWriteReg, writeCtrl, writeData]
@[simp] theorem ppuWriteReg_pads (r : PpuReg) (v : Byte) (s : State) : (ppuWriteReg r v s).pads = s.pads := by
  cases r <;> simp [ppuWriteReg, writeCtrl, writeData]
@[simp] theorem ppuWriteReg_draws (r : PpuReg) (v : Byte) (s : State) : (ppuWriteReg r v s).draws = s.draws := by
  cases r <;> simp [ppuWriteReg, writeCtrl, writeData]
@[simp] theorem ppuWriteReg_cart_mapper (r : PpuReg) (v : Byte) (s : State) : (ppuWriteReg r v s).cart.mapper = s.cart.mapper := by
  cases r <;> simp [ppuWriteReg, writeCtrl, writeData]
@[simp] theorem ppuWriteReg_cart_prgBanks (r : PpuReg) (v : Byte) (s : State) : (ppuWriteReg r v s).cart.prgBanks = s.cart.prgBanks := by
  cases r <;> simp [ppuWriteReg, writeCtrl, writeData]
@[simp] theorem ppuWriteReg_cart_chrBanks (r : PpuReg) (v : Byte) (s : State) : (ppuWriteReg r v s).cart.chrBanks = s.cart.chrBanks := by
  cases r <;> simp [ppuWriteReg, writeCtrl, writeData]
@[simp] theorem ppuWriteReg_cart_hasPrgRam (r : PpuReg) (v : Byte) (s : State) : (ppuWriteReg r v s).cart.hasPrgRam = s.cart.hasPrgRam := by
  cases r <;> simp [ppuWriteReg, writeCtrl, writeData]
@[simp] theorem ppuWriteReg_cart_verticalMirroring (r : PpuReg) (v : Byte) (s : State) : (ppuWriteReg r v s).cart.verticalMirroring = s.cart.verticalMirroring := by
  cases r <;> simp [ppuWriteReg, writeCtrl, writeData]
@[simp] theorem ppuWriteReg_cart_prg (r : PpuReg) (v : Byte) (s : State) : (ppuWriteReg r v s).cart.prg = s.cart.prg := by
  cases r <;> simp [ppuWriteReg, writeCtrl, writeData]
@[simp] theorem ppuWriteReg_cart_prgRam (r : PpuReg) (v : Byte) (s : State) : (ppuWriteReg r v s).cart.prgRam = s.cart.prgRam := by
  cases r <;> simp [ppuWriteReg, writeCtrl, writeData]
@[simp] theorem ppuWriteReg_cart_mmc1 (r : PpuReg) (v : Byte) (s : State) : (ppuWriteReg r v s).cart.mmc1 = s.cart.mmc1 := by
  cases r <;> simp [ppuWriteReg, writeCtrl, writeData]

@[simp] theorem dmaRead_a (addr : Word) (s : State) : (dmaRead addr s).2.a = s.a := by
  unfold dmaRead; split <;> simp
@[simp] theorem dmaRead_x (addr : Word) (s : State) : (dmaRead addr s).2.x = s.x := by
  unfold dmaRead; split <;> simp
@[simp] theorem dmaRead_y (addr : Word) (s : State) : (dmaRead addr s).2.y = s.y := by
  unfold dmaRead; split <;> simp
@[simp] theorem dmaRead_sp (addr : Word) (s : State) : (dmaRead addr s).2.sp = s.sp := by
  unfold dmaRead; split <;> simp
@[simp] theorem dmaRead_pc (addr : Word) (s : State) : (dmaRead addr s).2.pc = s.pc := by
  unfold dmaRead; split <;> simp
@[simp] theorem dmaRead_p (addr : Word) (s : State) : (dmaRead addr s).2.p = s.p := by
  unfold dmaRead; split <;> simp
@[simp] theorem dmaRead_pageCrossed (addr : Word) (s : State) : (dmaRead addr s).2.pageCrossed = s.pageCrossed := by
  unfold dmaRead; split <;> simp
@[simp] theorem dmaRead_branchTaken (addr : Word) (s : State) : (dmaRead addr s).2.branchTaken = s.branchTaken := by
  unfold dmaRead; split <;> simp
@[simp] theorem dmaRead_dmaStall (addr : Word) (s : State) : (dmaRead addr s).2.dmaStall = s.dmaStall := by
  unfold dmaRead; split <;> simp
@[simp] theorem dmaRead_nmiPending (addr : Word) (s : State) : (dmaRead addr s).2.nmiPending = s.nmiPending := by
  unfold dmaRead; split <;> simp
@[simp] theorem dmaRead_fault (addr : Word) (s : State) : (dmaRead addr s).2.fault = s.fault := by
  unfold dmaRead; split <;> simp
@[simp] theorem dmaRead_totalCycles (addr : Word) (s : State) : (dmaRead addr s).2.totalCycles = s.totalCycles := by
  unfold dmaRead; split <;> simp
@[simp] theorem dmaRead_ram (addr : Word) (s : State) : (dmaRead addr s).2.ram = s.ram := by
  unfold dmaRead; split <;> simp
@[simp] theorem dmaRead_cart (addr : Word) (s : State) : (dmaRead addr s).2.cart = s.cart := by
  unfold dmaRead; split <;> simp
@[simp] theorem dmaRead_pads (addr : Word) (s : State) : (dmaRead addr s).2.pads = s.pads := by
  unfold dmaRead; split <;> simp
@[simp] theorem dmaRead_oamDmaStall (addr : Word) (s : State) : (dmaRead addr s).2.oamDmaStall = s.oamDmaStall := by
  unfold dmaRead; split <;> simp
@[simp] theorem dmaRead_irqIn (addr : Word) (s : State) : (dmaRead addr s).2.irqIn = s.irqIn := by
  unfold dmaRead; split <;> simp
@[simp] theorem dmaRead_stepNo (addr : Word) (s : State) : (dmaRead addr s).2.stepNo = s.stepNo := by
  unfold dmaRead; split <;> simp
@[simp] theorem dmaRead_ppu (addr : Word) (s : State) : (dmaRead addr s).2.ppu = s.ppu := by
  unfold dmaRead; split <;> simp

@[simp] theorem dmaBytes_a (pageNo : Byte) (l : List Nat) (s : State) :
    (l.foldl (dmaByte pageNo) s).a = s.a := by
  induction l generalizing s with
  | nil => rfl
  | cons i l ih => rw [List.foldl_cons, ih]; simp [dmaByte]
@[simp] theorem dmaBytes_x (pageNo : Byte) (l : List Nat) (s : State) :
    (l.foldl (dmaByte pageNo) s).x = s.x := by
  induction l generalizing s with
  | nil => rfl
  | cons i l ih => rw [List.foldl_cons, ih]; simp [dmaByte]
@[simp] theorem dmaBytes_y (pageNo : Byte) (l : List Nat) (s : State) :
    (l.foldl (dmaByte pageNo) s).y = s.y := by
  induction l generalizing s with
  | nil => rfl
  | cons i l ih => rw [List.foldl_cons, ih]; simp [dmaByte]
@[simp] theorem dmaBytes_sp (pageNo : Byte) (l : List Nat) (s : State) :
    (l.foldl (dmaByte pageNo) s).sp = s.sp := by
  induction l generalizing s with
  | nil => rfl
  | cons i l ih => rw [List.foldl_cons, ih]; simp [dmaByte]
@[simp] theorem dmaBytes_pc (pageNo : Byte) (l : List Nat) (s : State) :
    (l.foldl (dmaByte pageNo) s).pc = s.pc := by
  induction l generalizing s with
  | nil => rfl
  | cons i l ih => rw [List.foldl_cons, ih]; simp [dmaByte]
@[simp] theorem dmaBytes_p (pageNo : Byte) (l : List Nat) (s : State) :
    (l.foldl (dmaByte pageNo) s).p = s.p := by
  induction l generalizing s with
  | nil => rfl
  | cons i l ih => rw [List.foldl_cons, ih]; simp [dmaByte]
@[simp] theorem dmaBytes_pageCrossed (pageNo : Byte) (l : List Nat) (s : State) :
    (l.foldl (dmaByte pageNo) s).pageCrossed = s.pageCrossed := by
  induction l generalizing s with
  | nil => rfl
  | cons i l ih => rw [List.foldl_cons, ih]; simp [dmaByte]
@[simp] theorem dmaBytes_branchTaken (pageNo : Byte) (l : List Nat) (s : State) :
    (l.foldl (dmaByte pageNo) s).branchTaken = s.branchTaken := by
  induction l generalizing s with
  | nil => rfl
  | cons i l ih => rw [List.foldl_cons, ih]; simp [dmaByte]
@[simp] theorem dmaBytes_dmaStall (pageNo : Byte) (l : List Nat) (s : State) :
    (l.foldl (dmaByte pageNo) s).dmaStall = s.dmaStall := by
  induction l generalizing s with
  | nil => rfl
  | cons i l ih => rw [List.foldl_cons, ih]; simp [dmaByte]
@[simp] theorem dmaBytes_nmiPending (pageNo : Byte) (l : List Nat) (s : State) :
    (l.foldl (dmaByte pageNo) s).nmiPending = s.nmiPending := by
  induction l generalizing s with
  | nil => rfl
  | cons i l ih => rw [List.foldl_cons, ih]; simp [dmaByte]
@[simp] theorem dmaBytes_fault (pageNo : Byte) (l : List Nat) (s : State) :
    (l.foldl (dmaByte pageNo) s).fault = s.fault := by
  induction l generalizing s with
  | nil => rfl
  | cons i l ih => rw [List.foldl_cons, ih]; simp [dmaByte]
@[simp] theorem dmaBytes_totalCycles (pageNo : Byte) (l : List Nat) (s : State) :
    (l.foldl (dmaByte pageNo) s).totalCycles = s.totalCycles := by
  induction l generalizing s with
  | nil => rfl
  | cons i l ih => rw [List.foldl_cons, ih]; simp [dmaByte]
@[simp] theorem dmaBytes_ram (pageNo : Byte) (l : List Nat) (s : State) :
    (l.foldl (dmaByte pageNo) s).ram = s.ram := by
  induction l generalizing s with
  | nil => rfl
  | cons i l ih => rw [List.foldl_cons, ih]; simp [dmaByte]
@[simp] theorem dmaBytes_cart (pageNo : Byte) (l : List Nat) (s : State) :
    (l.foldl (dmaByte pageNo) s).cart = s.cart := by
  induction l generalizing s with
  | nil => rfl
  | cons i l ih => rw [List.foldl_cons, ih]; simp [dmaByte]
@[simp] theorem dmaBytes_pads (pageNo : Byte) (l : List Nat) (s : State) :
    (l.foldl (dmaByte pageNo) s).pads = s.pads := by
  induction l generalizing s with
  | nil => rfl
  | cons i l ih => rw [List.foldl_cons, ih]; simp [dmaByte]
@[simp] theorem dmaBytes_oamDmaStall (pageNo : Byte) (l : List Nat) (s : State) :
    (l.foldl (dmaByte pageNo) s).oamDmaStall = s.oamDmaStall := by
  induction l generalizing s with
  | nil => rfl
  | cons i l ih => rw [List.foldl_cons, ih]; simp [dmaByte]
@[simp] theorem dmaBytes_irqIn (pageNo : Byte) (l : List Nat) (s : State) :
    (l.foldl (dmaByte pageNo) s).irqIn = s.irqIn := by
  induction l generalizing s with
  | nil => rfl
  | cons i l ih => rw [List.foldl_cons, ih]; simp [dmaByte]
@[simp] theorem dmaBytes_stepNo (pageNo : Byte) (l : List Nat) (s : State) :
    (l.foldl (dmaByte pageNo) s).stepNo = s.stepNo := by
  induction l generalizing s with
  | nil => rfl
  | cons i l ih => rw [List.foldl_cons, ih]; simp [dmaByte]

@[simp] theorem oamDma_a (pageNo : Byte) (s : State) : (oamDma pageNo s).a = s.a := by
  simp [oamDma]
@[simp] theorem oamDma_x (pageNo : Byte) (s : State) : (oamDma pageNo s).x = s.x := by
  simp [oamDma]
@[simp] theorem oamDma_y (pageNo : Byte) (s : State) : (oamDma pageNo s).y = s.y := by
  simp [oamDma]
@[simp] theorem oamDma_sp (pageNo : Byte) (s : State) : (oamDma pageNo s).sp = s.sp := by
  simp [oamDma]
@[simp] theorem oamDma_pc (pageNo : Byte) (s : State) : (oamDma pageNo s).pc = s.pc := by
  simp [oamDma]
@[simp] theorem oamDma_p (pageNo : Byte) (s : State) : (oamDma pageNo s).p = s.p := by
  simp [oamDma]
@[simp] theorem oamDma_pageCrossed (pageNo : Byte) (s : State) : (oamDma pageNo s).pageCrossed = s.pageCrossed := by
  simp [oamDma]
@[simp] theorem oamDma_branchTaken (pageNo : Byte) (s : State) : (oamDma pageNo s).branchTaken = s.branchTaken := by
  simp [oamDma]
@[simp] theorem oamDma_nmiPending (pageNo : Byte) (s : State) : (oamDma pageNo s).nmiPending = s.nmiPending := by
  simp [oamDma]
@[simp] theorem oamDma_fault (pageNo : Byte) (s : State) : (oamDma pageNo s).fault = s.fault := by
  simp [oamDma]
@[simp] theorem oamDma_totalCycles (pageNo : Byte) (s : State) : (oamDma pageNo s).totalCycles = s.totalCycles := by
  simp [oamDma]
@[simp] theorem oamDma_ram (pageNo : Byte) (s : State) : (oamDma pageNo s).ram = s.ram := by
  simp [oamDma]
@[simp] theorem oamDma_cart (pageNo : Byte) (s : State) : (oamDma pageNo s).cart = s.cart := by
  simp [oamDma]
@[simp] theorem oamDma_pads (pageNo : Byte) (s : State) : (oamDma pageNo s).pads = s.pads := by
  simp [oamDma]
@[simp] theorem oamDma_oamDmaStall (pageNo : Byte) (s : State) : (oamDma pageNo s).oamDmaStall = s.oamDmaStall := by
  simp [oamDma]
@[simp] theorem oamDma_irqIn (pageNo : Byte) (s : State) : (oamDma pageNo s).irqIn = s.irqIn := by
  simp [oamDma]
@[simp] theorem oamDma_stepNo (pageNo : Byte) (s : State) : (oamDma pageNo s).stepNo = s.stepNo := by
  simp [oamDma]

/-- A write leaves `a` unchanged. -/
@[simp] theorem memWrite_a (addr : Word) (v : Byte) (s : State) : (memWrite addr v s).a = s.a := by
  unfold memWrite; split <;> simp
/-- A write leaves `x` unchanged. -/
@[simp] theorem memWrite_x (addr : Word) (v : Byte) (s : State) : (memWrite addr v s).x = s.x := by
  unfold memWrite; split <;> simp
/-- A write leaves `y` unchanged. -/
@[simp] theorem memWrite_y (addr : Word) (v : Byte) (s : State) : (memWrite addr v s).y = s.y := by
  unfold memWrite; split <;> simp
/-- A write leaves `sp` unchanged. -/
@[simp] theorem memWrite_sp (addr : Word) (v : Byte) (s : State) : (memWrite addr v s).sp = s.sp := by
  unfold memWrite; split <;> simp
/-- A write leaves `pc` unchanged. -/
@[simp] theorem memWrite_pc (addr : Word) (v : Byte) (s : State) : (memWrite addr v s).pc = s.pc := by
  unfold memWrite; split <;> simp
/-- A write leaves `p` unchanged. -/
@[simp] theorem memWrite_p (addr : Word) (v : Byte) (s : State) : (memWrite addr v s).p = s.p := by
  unfold memWrite; split <;> simp
/-- A write leaves `pageCrossed` unchanged. -/
@[simp] theorem memWrite_pageCrossed (addr : Word) (v : Byte) (s : State) : (memWrite addr v s).pageCrossed = s.pageCrossed := by
  unfold memWrite; split <;> simp
/-- A write leaves `branchTaken` unchanged. -/
@[simp] theorem memWrite_branchTaken (addr : Word) (v : Byte) (s : State) : (memWrite addr v s).branchTaken = s.branchTaken := by
  unfold memWrite; split <;> simp
/-- A write leaves `fault` unchanged. -/
@[simp] theorem memWrite_fault (addr : Word) (v : Byte) (s : State) : (memWrite addr v s).fault = s.fault := by
  unfold memWrite; split <;> simp
/-- A write leaves `totalCycles` unchanged. -/
@[simp] theorem memWrite_totalCycles (addr : Word) (v : Byte) (s : State) : (memWrite addr v s).totalCycles = s.totalCycles := by
  unfold memWrite; split <;> simp
/-- A write leaves `oamDmaStall` unchanged. -/
@[simp] theorem memWrite_oamDmaStall (addr : Word) (v : Byte) (s : State) : (memWrite addr v s).oamDmaStall = s.oamDmaStall := by
  unfold memWrite; split <;> simp
/-- A write leaves `irqIn` unchanged. -/
@[simp] theorem memWrite_irqIn (addr : Word) (v : Byte) (s : State) : (memWrite addr v s).irqIn = s.irqIn := by
  unfold memWrite; split <;> simp
/-- A write leaves `stepNo` unchanged. -/
@[simp] theorem memWrite_stepNo (addr : Word) (v : Byte) (s : State) : (memWrite addr v s).stepNo = s.stepNo := by
  unfold memWrite; split <;> simp
@[simp] theorem cartWrite_mapper (c : Cartridge) (a : Nat) (v : Byte) : (c.write a v).mapper = c.mapper := by
  unfold Cartridge.write; split <;> rfl
/-- A write leaves the cartridge's `mapper` unchanged. -/
@[simp] theorem memWrite_cart_mapper (addr : Word) (v : Byte) (s : State) : (memWrite addr v s).cart.mapper = s.cart.mapper := by
  unfold memWrite; split <;> simp
@[simp] theorem cartWrite_prgBanks (c : Cartridge) (a : Nat) (v : Byte) : (c.write a v).prgBanks = c.prgBanks := by
  unfold Cartridge.write; split <;> rfl
/-- A write leaves the cartridge's `prgBanks` unchanged. -/
@[simp] theorem memWrite_cart_prgBanks (addr : Word) (v : Byte) (s : State) : (memWrite addr v s).cart.prgBanks = s.cart.prgBanks := by
  unfold memWrite; split <;> simp
@[simp] theorem cartWrite_chrBanks (c : Cartridge) (a : Nat) (v : Byte) : (c.write a v).chrBanks = c.chrBanks := by
  unfold Cartridge.write; split <;> rfl
/-- A write leaves the cartridge's `chrBanks` unchanged. -/
@[simp] theorem memWrite_cart_chrBanks (addr : Word) (v : Byte) (s : State) : (memWrite addr v s).cart.chrBanks = s.cart.chrBanks := by
  unfold memWrite; split <;> simp
@[simp] theorem cartWrite_hasPrgRam (c : Cartridge) (a : Nat) (v : Byte) : (c.write a v).hasPrgRam = c.hasPrgRam := by
  unfold Cartridge.write; split <;> rfl
/-- A write leaves the cartridge's `hasPrgRam` unchanged. -/
@[simp] theorem memWrite_cart_hasPrgRam (addr : Word) (v : Byte) (s : State) : (memWrite addr v s).cart.hasPrgRam = s.cart.hasPrgRam := by
  unfold memWrite; split <;> simp
@[simp] theorem cartWrite_verticalMirroring (c : Cartridge) (a : Nat) (v : Byte) : (c.write a v).verticalMirroring = c.verticalMirroring := by
  unfold Cartridge.write; split <;> rfl
/-- A write leaves the cartridge's `verticalMirroring` unchanged. -/
@[simp] theorem memWrite_cart_verticalMirroring (addr : Word) (v : Byte) (s : State) : (memWrite addr v s).cart.verticalMirroring = s.cart.verticalMirroring := by
  unfold memWrite; split <;> simp
@[simp] theorem cartWrite_prg (c : Cartridge) (a : Nat) (v : Byte) : (c.write a v).prg = c.prg := by
  unfold Cartridge.write; split <;> rfl
/-- A write leaves the cartridge's `prg` unchanged. -/
@[simp] theorem memWrite_cart_prg (addr : Word) (v : Byte) (s : State) : (memWrite addr v s).cart.prg = s.cart.prg := by
  unfold memWrite; split <;> simp

/-- `Push` in closed form: RAM and S change, nothing else. -/
theorem push_eq (v : Byte) (s : State) :
    push v s = (s.setRam (s.ram.write (0x100 + s.sp.toNat) v)).setSp (s.sp - 1) := by
  have h := s.sp.isLt
  have h2 := stackAddr_toNat s.sp
  rw [push, memWrite_of_ram v s (by omega), h2, Nat.mod_eq_of_lt (by omega)]
  rfl

/-- `Pull` in closed form: S changes, nothing else. -/
theorem pull_eq (s : State) :
    pull s = (s.ram.read (0x100 + (s.sp + 1).toNat), s.setSp (s.sp + 1)) := by
  have h := (s.sp + 1).isLt
  have h2 := stackAddr_toNat (s.sp + 1)
  rw [pull, memRead_of_ram _ (by simp only [setSp_sp]; omega)]
  simp only [setSp_sp, setSp_ram, h2]
  rw [Nat.mod_eq_of_lt (by omega)]

/-- Pushing a word in closed form. -/
theorem pushWord_eq (w : Word) (s : State) :
    pushWord w s = (s.setRam ((s.ram.write (0x100 + s.sp.toNat) (hiByte w)).write
      (0x100 + (s.sp - 1).toNat) (loByte w))).setSp (s.sp - 2) := by
  rw [pushWord, push_eq, push_eq]
  apply State.ext_fields <;> simp [BitVec.sub_sub]

/-- Pulling a word in closed form. -/
theorem pullWord_eq (s : State) :
    pullWord s = (word (s.ram.read (0x100 + (s.sp + 2).toNat)) (s.ram.read (0x100 + (s.sp + 1).toNat)),
      s.setSp (s.sp + 2)) := by
  have h : s.sp + 1 + 1 = s.sp + 2 := by rw [BitVec.add_assoc]; rfl
  simp only [pullWord, pull_eq, setSp_sp, setSp_ram, h]
  rfl

/-- The two-byte read of a vector, from the cartridge, has no effect. -/
theorem read16_vector {addr : Word} (s : State) (h : 0x8000 ≤ addr.toNat) (h2 : addr.toNat < 0xFFFF) :
    read16 addr s = (word (s.cart.read (addr.toNat + 1)) (s.cart.read addr.toNat), s) := by
  have h3 : (addr + 1).toNat = addr.toNat + 1 := by rw [BitVec.toNat_add]; simp; omega
  rw [read16, memRead_of_cartridge s h]
  simp only
  rw [memRead_of_cartridge s (by omega), h3]

/-- The zero-page pointer read has no effect. -/
theorem read16Zp_eq (z : Byte) (s : State) :
    read16Zp z s = (word (s.ram.read (z + 1).toNat) (s.ram.read z.toNat), s) := by
  have h1 := z.isLt
  have h2 := (z + 1).isLt
  have h3 := zext16_toNat z
  have h4 := zext16_toNat (z + 1)
  rw [read16Zp, memRead_of_ram s (by omega)]
  simp only
  rw [memRead_of_ram s (by omega), h3, h4, Nat.mod_eq_of_lt (by omega), Nat.mod_eq_of_lt (by omega)]

/-- Taking an exception, in closed form. -/
theorem takeException_eq (ret : Word) (b : Bool) {vector : Word} (s : State) (h : 0x8000 ≤ vector.toNat)
    (h2 : vector.toNat < 0xFFFF) :
    takeException ret b vector s =
      (((s.setRam (((s.ram.write (0x100 + s.sp.toNat) (hiByte ret)).write
          (0x100 + (s.sp - 1).toNat) (loByte ret)).write (0x100 + (s.sp - 2).toNat) (s.p.toByte b))).setSp
        (s.sp - 3)).setP { s.p with i := true }).setPc
          (word (s.cart.read (vector.toNat + 1)) (s.cart.read vector.toNat)) := by
  simp only [takeException, pushWord_eq, push_eq]
  rw [read16_vector _ h h2]
  apply State.ext_fields <;> simp [BitVec.sub_sub]

/-- The return from an exception, in closed form. -/
theorem returnFromException_eq (s : State) :
    returnFromException s =
      ((s.setSp (s.sp + 3)).setP (Flags.fromByte (s.ram.read (0x100 + (s.sp + 1).toNat)))).setPc
        (word (s.ram.read (0x100 + (s.sp + 3).toNat)) (s.ram.read (0x100 + (s.sp + 2).toNat))) := by
  have h2 : s.sp + 1 + 1 = s.sp + 2 := by rw [BitVec.add_assoc]; rfl
  have h3 : s.sp + 1 + 2 = s.sp + 3 := by rw [BitVec.add_assoc]; rfl
  simp only [returnFromException, pull_eq, pullWord_eq, setP_sp, setSp_sp, setP_ram, setSp_ram, h2, h3]
  rfl

end Sys2Proof.Machine
end

