-- ==== Sys2Proof/Laws/Closed.lean ====
section
/-! SUPPORT. What a step can do, said once: a property of states that the register updates and the two bus accesses
keep is kept by every instruction (`Closed.exec`), and one that the other updates of a step keep as well is kept by
every step (`StepClosed.step`). -/

namespace Sys2Proof.Machine

/-- A property that the register updates and the two bus accesses keep. -/
structure Closed (P : State → Prop) : Prop where
  setA : ∀ {s} v, P s → P (s.setA v)
  setX : ∀ {s} v, P s → P (s.setX v)
  setY : ∀ {s} v, P s → P (s.setY v)
  setSp : ∀ {s} v, P s → P (s.setSp v)
  setPc : ∀ {s} v, P s → P (s.setPc v)
  setP : ∀ {s} v, P s → P (s.setP v)
  setPageCrossed : ∀ {s} v, P s → P (s.setPageCrossed v)
  setBranchTaken : ∀ {s} v, P s → P (s.setBranchTaken v)
  memRead : ∀ {s} a, P s → P (memRead a s).2
  memWrite : ∀ {s} a v, P s → P (memWrite a v s)

variable {P : State → Prop} {s : State}

theorem Closed.updateZN (h : Closed P) (v : Byte) (hs : P s) : P (s.updateZN v) := h.setP _ hs

theorem Closed.read16 (h : Closed P) (a : Word) (hs : P s) : P (Machine.read16 a s).2 :=
  h.memRead _ (h.memRead _ hs)

theorem Closed.read16Zp (h : Closed P) (z : Byte) (hs : P s) : P (Machine.read16Zp z s).2 :=
  h.memRead _ (h.memRead _ hs)

theorem Closed.indexed (h : Closed P) (base : Word) (index : Byte) (hs : P s) :
    P (Machine.indexed base index s).2 :=
  h.setPageCrossed _ hs

theorem Closed.locate (h : Closed P) (o : Operand) (hs : P s) : P (Machine.locate o s).2 := by
  cases o with
  | absoluteX a => exact h.indexed _ _ hs
  | absoluteY a => exact h.indexed _ _ hs
  | indirectX z => exact h.read16Zp _ hs
  | indirectY z => exact h.indexed _ _ (h.read16Zp _ hs)
  | _ => exact hs

theorem Closed.readLoc (h : Closed P) (l : Loc) (hs : P s) : P (Machine.readLoc l s).2 := by
  cases l with
  | mem ea => exact h.memRead _ hs
  | _ => exact hs

theorem Closed.writeLoc (h : Closed P) (l : Loc) (v : Byte) (hs : P s) : P (Machine.writeLoc l v s) := by
  cases l with
  | regA => exact h.setA _ hs
  | imm _ => exact hs
  | mem ea => exact h.memWrite _ _ hs

theorem Closed.readOperand (h : Closed P) (o : Operand) (hs : P s) : P (Machine.readOperand o s).2 :=
  h.readLoc _ (h.locate o hs)

theorem Closed.storeOperand (h : Closed P) (o : Operand) (v : Byte) (hs : P s) : P (Machine.storeOperand o v s) :=
  h.writeLoc _ _ (h.locate o hs)

theorem Closed.push (h : Closed P) (v : Byte) (hs : P s) : P (Machine.push v s) :=
  h.setSp _ (h.memWrite _ _ hs)

theorem Closed.pull (h : Closed P) (hs : P s) : P (Machine.pull s).2 :=
  h.memRead _ (h.setSp _ hs)

theorem Closed.pushWord (h : Closed P) (v : Word) (hs : P s) : P (Machine.pushWord v s) :=
  h.push _ (h.push _ hs)

theorem Closed.pullWord (h : Closed P) (hs : P s) : P (Machine.pullWord s).2 :=
  h.pull (h.pull hs)

theorem Closed.takeException (h : Closed P) (ret : Word) (b : Bool) (vector : Word) (hs : P s) :
    P (Machine.takeException ret b vector s) :=
  h.setPc _ (h.read16 _ (h.setP _ (h.push _ (h.pushWord _ hs))))

theorem Closed.returnFromException (h : Closed P) (hs : P s) : P (Machine.returnFromException s) :=
  h.setPc _ (h.pullWord (h.setP _ (h.pull hs)))

theorem Closed.fetchByte (h : Closed P) (hs : P s) : P (Machine.fetchByte s).2 :=
  h.setPc _ (h.memRead _ hs)

theorem Closed.fetchOperands (h : Closed P) (n : Nat) (hs : P s) : P (Machine.fetchOperands n s).2 := by
  match n with
  | 0 => exact hs
  | 1 => exact h.fetchByte hs
  | _ + 2 => exact h.fetchByte (h.fetchByte hs)

theorem Closed.tax (h : Closed P) (hs : P s) : P (Machine.tax s) := h.updateZN _ (h.setX _ hs)
theorem Closed.tay (h : Closed P) (hs : P s) : P (Machine.tay s) := h.updateZN _ (h.setY _ hs)
theorem Closed.txa (h : Closed P) (hs : P s) : P (Machine.txa s) := h.updateZN _ (h.setA _ hs)
theorem Closed.tya (h : Closed P) (hs : P s) : P (Machine.tya s) := h.updateZN _ (h.setA _ hs)
theorem Closed.tsx (h : Closed P) (hs : P s) : P (Machine.tsx s) := h.updateZN _ (h.setX _ hs)
theorem Closed.inx (h : Closed P) (hs : P s) : P (Machine.inx s) := h.updateZN _ (h.setX _ hs)
theorem Closed.iny (h : Closed P) (hs : P s) : P (Machine.iny s) := h.updateZN _ (h.setY _ hs)
theorem Closed.dex (h : Closed P) (hs : P s) : P (Machine.dex s) := h.updateZN _ (h.setX _ hs)
theorem Closed.dey (h : Closed P) (hs : P s) : P (Machine.dey s) := h.updateZN _ (h.setY _ hs)
theorem Closed.clc (h : Closed P) (hs : P s) : P (Machine.clc s) := h.setP _ hs
theorem Closed.cld (h : Closed P) (hs : P s) : P (Machine.cld s) := h.setP _ hs
theorem Closed.cli (h : Closed P) (hs : P s) : P (Machine.cli s) := h.setP _ hs
theorem Closed.clv (h : Closed P) (hs : P s) : P (Machine.clv s) := h.setP _ hs
theorem Closed.sec (h : Closed P) (hs : P s) : P (Machine.sec s) := h.setP _ hs
theorem Closed.sed (h : Closed P) (hs : P s) : P (Machine.sed s) := h.setP _ hs
theorem Closed.sei (h : Closed P) (hs : P s) : P (Machine.sei s) := h.setP _ hs

theorem Closed.lda (h : Closed P) (o : Operand) (hs : P s) : P (Machine.lda o s) :=
  h.updateZN _ (h.setA _ (h.readOperand o hs))
theorem Closed.ldx (h : Closed P) (o : Operand) (hs : P s) : P (Machine.ldx o s) :=
  h.updateZN _ (h.setX _ (h.readOperand o hs))
theorem Closed.ldy (h : Closed P) (o : Operand) (hs : P s) : P (Machine.ldy o s) :=
  h.updateZN _ (h.setY _ (h.readOperand o hs))
theorem Closed.sta (h : Closed P) (o : Operand) (hs : P s) : P (Machine.sta o s) := h.storeOperand o _ hs
theorem Closed.stx (h : Closed P) (o : Operand) (hs : P s) : P (Machine.stx o s) := h.storeOperand o _ hs
theorem Closed.sty (h : Closed P) (o : Operand) (hs : P s) : P (Machine.sty o s) := h.storeOperand o _ hs
theorem Closed.adc (h : Closed P) (o : Operand) (hs : P s) : P (Machine.adc o s) :=
  h.setP _ (h.setA _ (h.readOperand o hs))
theorem Closed.sbc (h : Closed P) (o : Operand) (hs : P s) : P (Machine.sbc o s) :=
  h.setP _ (h.setA _ (h.readOperand o hs))
theorem Closed.andA (h : Closed P) (o : Operand) (hs : P s) : P (Machine.andA o s) :=
  h.updateZN _ (h.setA _ (h.readOperand o hs))
theorem Closed.oraA (h : Closed P) (o : Operand) (hs : P s) : P (Machine.oraA o s) :=
  h.updateZN _ (h.setA _ (h.readOperand o hs))
theorem Closed.eorA (h : Closed P) (o : Operand) (hs : P s) : P (Machine.eorA o s) :=
  h.updateZN _ (h.setA _ (h.readOperand o hs))
theorem Closed.bitA (h : Closed P) (o : Operand) (hs : P s) : P (Machine.bitA o s) := h.setP _ (h.readOperand o hs)
theorem Closed.cmp (h : Closed P) (o : Operand) (hs : P s) : P (Machine.cmp o s) := h.setP _ (h.readOperand o hs)
theorem Closed.cpx (h : Closed P) (o : Operand) (hs : P s) : P (Machine.cpx o s) := h.setP _ (h.readOperand o hs)
theorem Closed.cpy (h : Closed P) (o : Operand) (hs : P s) : P (Machine.cpy o s) := h.setP _ (h.readOperand o hs)
theorem Closed.inc (h : Closed P) (o : Operand) (hs : P s) : P (Machine.inc o s) :=
  h.updateZN _ (h.writeLoc _ _ (h.readLoc _ (h.locate o hs)))
theorem Closed.dec (h : Closed P) (o : Operand) (hs : P s) : P (Machine.dec o s) :=
  h.updateZN _ (h.writeLoc _ _ (h.readLoc _ (h.locate o hs)))
theorem Closed.asl (h : Closed P) (o : Operand) (hs : P s) : P (Machine.asl o s) :=
  h.updateZN _ (h.writeLoc _ _ (h.setP _ (h.readLoc _ (h.locate o hs))))
theorem Closed.lsr (h : Closed P) (o : Operand) (hs : P s) : P (Machine.lsr o s) :=
  h.updateZN _ (h.writeLoc _ _ (h.setP _ (h.readLoc _ (h.locate o hs))))
theorem Closed.rol (h : Closed P) (o : Operand) (hs : P s) : P (Machine.rol o s) :=
  h.updateZN _ (h.writeLoc _ _ (h.setP _ (h.readLoc _ (h.locate o hs))))
theorem Closed.ror (h : Closed P) (o : Operand) (hs : P s) : P (Machine.ror o s) :=
  h.updateZN _ (h.writeLoc _ _ (h.setP _ (h.readLoc _ (h.locate o hs))))

theorem Closed.branch (h : Closed P) (cond : Bool) (off : Int) (hs : P s) : P (Machine.branch cond off s) := by
  unfold Machine.branch
  split
  · exact h.setPc _ (h.setPageCrossed _ (h.setBranchTaken _ hs))
  · exact hs

theorem Closed.bpl (h : Closed P) (off : Int) (hs : P s) : P (Machine.bpl off s) := h.branch _ off hs
theorem Closed.bmi (h : Closed P) (off : Int) (hs : P s) : P (Machine.bmi off s) := h.branch _ off hs
theorem Closed.bvc (h : Closed P) (off : Int) (hs : P s) : P (Machine.bvc off s) := h.branch _ off hs
theorem Closed.bvs (h : Closed P) (off : Int) (hs : P s) : P (Machine.bvs off s) := h.branch _ off hs
theorem Closed.bcc (h : Closed P) (off : Int) (hs : P s) : P (Machine.bcc off s) := h.branch _ off hs
theorem Closed.bcs (h : Closed P) (off : Int) (hs : P s) : P (Machine.bcs off s) := h.branch _ off hs
theorem Closed.bne (h : Closed P) (off : Int) (hs : P s) : P (Machine.bne off s) := h.branch _ off hs
theorem Closed.beq (h : Closed P) (off : Int) (hs : P s) : P (Machine.beq off s) := h.branch _ off hs

theorem Closed.jmpAbsolute (h : Closed P) (a : Word) (hs : P s) : P (Machine.jmpAbsolute a s) := h.setPc _ hs

theorem Closed.jmpIndirect (h : Closed P) (a : Word) (hs : P s) : P (Machine.jmpIndirect a s) :=
  h.setPc _ (h.memRead _ (h.memRead _ hs))

theorem Closed.jsr (h : Closed P) (a : Word) (hs : P s) : P (Machine.jsr a s) := h.setPc _ (h.pushWord _ hs)

theorem Closed.rts (h : Closed P) (hs : P s) : P (Machine.rts s) := h.setPc _ (h.pullWord hs)

theorem Closed.txs (h : Closed P) (hs : P s) : P (Machine.txs s) := h.setSp _ hs
theorem Closed.pha (h : Closed P) (hs : P s) : P (Machine.pha s) := h.push _ hs
theorem Closed.php (h : Closed P) (hs : P s) : P (Machine.php s) := h.push _ hs
theorem Closed.pla (h : Closed P) (hs : P s) : P (Machine.pla s) := h.updateZN _ (h.setA _ (h.pull hs))
theorem Closed.plp (h : Closed P) (hs : P s) : P (Machine.plp s) := h.setP _ (h.pull hs)
theorem Closed.nop (_ : Closed P) (hs : P s) : P (Machine.nop s) := hs
theorem Closed.brk (h : Closed P) (hs : P s) : P (Machine.brk s) := h.takeException _ _ _ hs
theorem Closed.rti (h : Closed P) (hs : P s) : P (Machine.rti s) := h.returnFromException hs

/-- Every instruction answers a next state, and keeps every closed property. -/
theorem Closed.exec (h : Closed P) (i : Instr) (hs : P s) : ∃ t, Machine.exec i s = .next t ∧ P t :=
  match i with
  | .ldaIndX z => ⟨_, rfl, h.lda (.indirectX z) hs⟩
  | .ldaZp z => ⟨_, rfl, h.lda (.zeroPage z) hs⟩
  | .ldaImm v => ⟨_, rfl, h.lda (.immediate v) hs⟩
  | .ldaAbs a => ⟨_, rfl, h.lda (.absolute a) hs⟩
  | .ldaIndY z => ⟨_, rfl, h.lda (.indirectY z) hs⟩
  | .ldaZpX z => ⟨_, rfl, h.lda (.zeroPageX z) hs⟩
  | .ldaAbsY a => ⟨_, rfl, h.lda (.absoluteY a) hs⟩
  | .ldaAbsX a => ⟨_, rfl, h.lda (.absoluteX a) hs⟩
  | .ldxImm v => ⟨_, rfl, h.ldx (.immediate v) hs⟩
  | .ldxZp z => ⟨_, rfl, h.ldx (.zeroPage z) hs⟩
  | .ldxAbs a => ⟨_, rfl, h.ldx (.absolute a) hs⟩
  | .ldxZpY z => ⟨_, rfl, h.ldx (.zeroPageY z) hs⟩
  | .ldxAbsY a => ⟨_, rfl, h.ldx (.absoluteY a) hs⟩
  | .ldyImm v => ⟨_, rfl, h.ldy (.immediate v) hs⟩
  | .ldyZp z => ⟨_, rfl, h.ldy (.zeroPage z) hs⟩
  | .ldyAbs a => ⟨_, rfl, h.ldy (.absolute a) hs⟩
  | .ldyZpX z => ⟨_, rfl, h.ldy (.zeroPageX z) hs⟩
  | .ldyAbsX a => ⟨_, rfl, h.ldy (.absoluteX a) hs⟩
  | .staIndX z => ⟨_, rfl, h.sta (.indirectX z) hs⟩
  | .staZp z => ⟨_, rfl, h.sta (.zeroPage z) hs⟩
  | .staAbs a => ⟨_, rfl, h.sta (.absolute a) hs⟩
  | .staIndY z => ⟨_, rfl, h.sta (.indirectY z) hs⟩
  | .staZpX z => ⟨_, rfl, h.sta (.zeroPageX z) hs⟩
  | .staAbsY a => ⟨_, rfl, h.sta (.absoluteY a) hs⟩
  | .staAbsX a => ⟨_, rfl, h.sta (.absoluteX a) hs⟩
  | .stxZp z => ⟨_, rfl, h.stx (.zeroPage z) hs⟩
  | .stxAbs a => ⟨_, rfl, h.stx (.absolute a) hs⟩
  | .stxZpY z => ⟨_, rfl, h.stx (.zeroPageY z) hs⟩
  | .styZp z => ⟨_, rfl, h.sty (.zeroPage z) hs⟩
  | .styAbs a => ⟨_, rfl, h.sty (.absolute a) hs⟩
  | .styZpX z => ⟨_, rfl, h.sty (.zeroPageX z) hs⟩
  | .tax => ⟨_, rfl, h.tax hs⟩
  | .tay => ⟨_, rfl, h.tay hs⟩
  | .txa => ⟨_, rfl, h.txa hs⟩
  | .tya => ⟨_, rfl, h.tya hs⟩
  | .tsx => ⟨_, rfl, h.tsx hs⟩
  | .txs => ⟨_, rfl, h.txs hs⟩
  | .adcIndX z => ⟨_, rfl, h.adc (.indirectX z) hs⟩
  | .adcZp z => ⟨_, rfl, h.adc (.zeroPage z) hs⟩
  | .adcImm v => ⟨_, rfl, h.adc (.immediate v) hs⟩
  | .adcAbs a => ⟨_, rfl, h.adc (.absolute a) hs⟩
  | .adcIndY z => ⟨_, rfl, h.adc (.indirectY z) hs⟩
  | .adcZpX z => ⟨_, rfl, h.adc (.zeroPageX z) hs⟩
  | .adcAbsY a => ⟨_, rfl, h.adc (.absoluteY a) hs⟩
  | .adcAbsX a => ⟨_, rfl, h.adc (.absoluteX a) hs⟩
  | .sbcIndX z => ⟨_, rfl, h.sbc (.indirectX z) hs⟩
  | .sbcZp z => ⟨_, rfl, h.sbc (.zeroPage z) hs⟩
  | .sbcImm v => ⟨_, rfl, h.sbc (.immediate v) hs⟩
  | .sbcAbs a => ⟨_, rfl, h.sbc (.absolute a) hs⟩
  | .sbcIndY z => ⟨_, rfl, h.sbc (.indirectY z) hs⟩
  | .sbcZpX z => ⟨_, rfl, h.sbc (.zeroPageX z) hs⟩
  | .sbcAbsY a => ⟨_, rfl, h.sbc (.absoluteY a) hs⟩
  | .sbcAbsX a => ⟨_, rfl, h.sbc (.absoluteX a) hs⟩
  | .andIndX z => ⟨_, rfl, h.andA (.indirectX z) hs⟩
  | .andZp z => ⟨_, rfl, h.andA (.zeroPage z) hs⟩
  | .andImm v => ⟨_, rfl, h.andA (.immediate v) hs⟩
  | .andAbs a => ⟨_, rfl, h.andA (.absolute a) hs⟩
  | .andIndY z => ⟨_, rfl, h.andA (.indirectY z) hs⟩
  | .andZpX z => ⟨_, rfl, h.andA (.zeroPageX z) hs⟩
  | .andAbsY a => ⟨_, rfl, h.andA (.absoluteY a) hs⟩
  | .andAbsX a => ⟨_, rfl, h.andA (.absoluteX a) hs⟩
  | .oraIndX z => ⟨_, rfl, h.oraA (.indirectX z) hs⟩
  | .oraZp z => ⟨_, rfl, h.oraA (.zeroPage z) hs⟩
  | .oraImm v => ⟨_, rfl, h.oraA (.immediate v) hs⟩
  | .oraAbs a => ⟨_, rfl, h.oraA (.absolute a) hs⟩
  | .oraIndY z => ⟨_, rfl, h.oraA (.indirectY z) hs⟩
  | .oraZpX z => ⟨_, rfl, h.oraA (.zeroPageX z) hs⟩
  | .oraAbsY a => ⟨_, rfl, h.oraA (.absoluteY a) hs⟩
  | .oraAbsX a => ⟨_, rfl, h.oraA (.absoluteX a) hs⟩
  | .eorIndX z => ⟨_, rfl, h.eorA (.indirectX z) hs⟩
  | .eorZp z => ⟨_, rfl, h.eorA (.zeroPage z) hs⟩
  | .eorImm v => ⟨_, rfl, h.eorA (.immediate v) hs⟩
  | .eorAbs a => ⟨_, rfl, h.eorA (.absolute a) hs⟩
  | .eorIndY z => ⟨_, rfl, h.eorA (.indirectY z) hs⟩
  | .eorZpX z => ⟨_, rfl, h.eorA (.zeroPageX z) hs⟩
  | .eorAbsY a => ⟨_, rfl, h.eorA (.absoluteY a) hs⟩
  | .eorAbsX a => ⟨_, rfl, h.eorA (.absoluteX a) hs⟩
  | .bitZp z => ⟨_, rfl, h.bitA (.zeroPage z) hs⟩
  | .bitAbs a => ⟨_, rfl, h.bitA (.absolute a) hs⟩
  | .cmpIndX z => ⟨_, rfl, h.cmp (.indirectX z) hs⟩
  | .cmpZp z => ⟨_, rfl, h.cmp (.zeroPage z) hs⟩
  | .cmpImm v => ⟨_, rfl, h.cmp (.immediate v) hs⟩
  | .cmpAbs a => ⟨_, rfl, h.cmp (.absolute a) hs⟩
  | .cmpIndY z => ⟨_, rfl, h.cmp (.indirectY z) hs⟩
  | .cmpZpX z => ⟨_, rfl, h.cmp (.zeroPageX z) hs⟩
  | .cmpAbsY a => ⟨_, rfl, h.cmp (.absoluteY a) hs⟩
  | .cmpAbsX a => ⟨_, rfl, h.cmp (.absoluteX a) hs⟩
  | .cpxImm v => ⟨_, rfl, h.cpx (.immediate v) hs⟩
  | .cpxZp z => ⟨_, rfl, h.cpx (.zeroPage z) hs⟩
  | .cpxAbs a => ⟨_, rfl, h.cpx (.absolute a) hs⟩
  | .cpyImm v => ⟨_, rfl, h.cpy (.immediate v) hs⟩
  | .cpyZp z => ⟨_, rfl, h.cpy (.zeroPage z) hs⟩
  | .cpyAbs a => ⟨_, rfl, h.cpy (.absolute a) hs⟩
  | .incZp z => ⟨_, rfl, h.inc (.zeroPage z) hs⟩
  | .incAbs a => ⟨_, rfl, h.inc (.absolute a) hs⟩
  | .incZpX z => ⟨_, rfl, h.inc (.zeroPageX z) hs⟩
  | .incAbsX a => ⟨_, rfl, h.inc (.absoluteX a) hs⟩
  | .decZp z => ⟨_, rfl, h.dec (.zeroPage z) hs⟩
  | .decAbs a => ⟨_, rfl, h.dec (.absolute a) hs⟩
  | .decZpX z => ⟨_, rfl, h.dec (.zeroPageX z) hs⟩
  | .decAbsX a => ⟨_, rfl, h.dec (.absoluteX a) hs⟩
  | .inx => ⟨_, rfl, h.inx hs⟩
  | .iny => ⟨_, rfl, h.iny hs⟩
  | .dex => ⟨_, rfl, h.dex hs⟩
  | .dey => ⟨_, rfl, h.dey hs⟩
  | .aslZp z => ⟨_, rfl, h.asl (.zeroPage z) hs⟩
  | .aslAcc => ⟨_, rfl, h.asl .accumulator hs⟩
  | .aslAbs a => ⟨_, rfl, h.asl (.absolute a) hs⟩
  | .aslZpX z => ⟨_, rfl, h.asl (.zeroPageX z) hs⟩
  | .aslAbsX a => ⟨_, rfl, h.asl (.absoluteX a) hs⟩
  | .lsrZp z => ⟨_, rfl, h.lsr (.zeroPage z) hs⟩
  | .lsrAcc => ⟨_, rfl, h.lsr .accumulator hs⟩
  | .lsrAbs a => ⟨_, rfl, h.lsr (.absolute a) hs⟩
  | .lsrZpX z => ⟨_, rfl, h.lsr (.zeroPageX z) hs⟩
  | .lsrAbsX a => ⟨_, rfl, h.lsr (.absoluteX a) hs⟩
  | .rolZp z => ⟨_, rfl, h.rol (.zeroPage z) hs⟩
  | .rolAcc => ⟨_, rfl, h.rol .accumulator hs⟩
  | .rolAbs a => ⟨_, rfl, h.rol (.absolute a) hs⟩
  | .rolZpX z => ⟨_, rfl, h.rol (.zeroPageX z) hs⟩
  | .rolAbsX a => ⟨_, rfl, h.rol (.absoluteX a) hs⟩
  | .rorZp z => ⟨_, rfl, h.ror (.zeroPage z) hs⟩
  | .rorAcc => ⟨_, rfl, h.ror .accumulator hs⟩
  | .rorAbs a => ⟨_, rfl, h.ror (.absolute a) hs⟩
  | .rorZpX z => ⟨_, rfl, h.ror (.zeroPageX z) hs⟩
  | .rorAbsX a => ⟨_, rfl, h.ror (.absoluteX a) hs⟩
  | .bpl off => ⟨_, rfl, h.bpl off hs⟩
  | .bmi off => ⟨_, rfl, h.bmi off hs⟩
  | .bvc off => ⟨_, rfl, h.bvc off hs⟩
  | .bvs off => ⟨_, rfl, h.bvs off hs⟩
  | .bcc off => ⟨_, rfl, h.bcc off hs⟩
  | .bcs off => ⟨_, rfl, h.bcs off hs⟩
  | .bne off => ⟨_, rfl, h.bne off hs⟩
  | .beq off => ⟨_, rfl, h.beq off hs⟩
  | .jmpAbs a => ⟨_, rfl, h.jmpAbsolute a hs⟩
  | .jmpInd a => ⟨_, rfl, h.jmpIndirect a hs⟩
  | .jsr a => ⟨_, rfl, h.jsr a hs⟩
  | .rts => ⟨_, rfl, h.rts hs⟩
  | .pha => ⟨_, rfl, h.pha hs⟩
  | .php => ⟨_, rfl, h.php hs⟩
  | .pla => ⟨_, rfl, h.pla hs⟩
  | .plp => ⟨_, rfl, h.plp hs⟩
  | .clc => ⟨_, rfl, h.clc hs⟩
  | .cld => ⟨_, rfl, h.cld hs⟩
  | .cli => ⟨_, rfl, h.cli hs⟩
  | .clv => ⟨_, rfl, h.clv hs⟩
  | .sec => ⟨_, rfl, h.sec hs⟩
  | .sed => ⟨_, rfl, h.sed hs⟩
  | .sei => ⟨_, rfl, h.sei hs⟩
  | .nop => ⟨_, rfl, h.nop hs⟩
  | .brk => ⟨_, rfl, h.brk hs⟩
  | .rti => ⟨_, rfl, h.rti hs⟩

/-- A property that the updates of a CPU step outside the instructions keep as well. -/
structure CpuClosed (P : State → Prop) : Prop extends Closed P where
  setDmaStall : ∀ {s} v, P s → P (s.setDmaStall v)
  setNmiPending : ∀ {s}, P s → P (s.setNmiPending false)
  setFault : ∀ {s} v, P s → P (s.setFault v)

/-- Every CPU step answers a next state, and keeps every closed property. -/
theorem CpuClosed.cpuStep (h : CpuClosed P) (irq : Bool) (hs : P s) :
    ∃ c t, Machine.cpuStep irq s = .next (c, t) ∧ P t := by
  unfold Machine.cpuStep
  split
  · exact ⟨_, _, rfl, h.takeException _ _ _ (h.setNmiPending hs)⟩
  · split
    · exact ⟨_, _, rfl, h.takeException _ _ _ hs⟩
    · have hf := h.fetchByte hs
      simp only [runInstruction]
      cases table (Machine.fetchByte s).1 with
      | none => exact ⟨_, _, rfl, h.setFault _ hf⟩
      | some row =>
        have hb : P (Machine.fetchByte s).2.beginInstruction :=
          h.setDmaStall _ (h.setBranchTaken _ (h.setPageCrossed _ hf))
        obtain ⟨t, ht, hp⟩ := h.exec
          (row.make (Machine.fetchOperands row.mode.operandLength (Machine.fetchByte s).2.beginInstruction).1.1
            (Machine.fetchOperands row.mode.operandLength (Machine.fetchByte s).2.beginInstruction).1.2)
          (h.fetchOperands row.mode.operandLength hb)
        refine ⟨cycles row t, t, ?_, hp⟩
        simp only [execute]
        rw [ht]

/-- A property that every update of a system step keeps. -/
structure StepClosed (P : State → Prop) : Prop extends CpuClosed P where
  nextInput : ∀ {s : State}, P s → P s.nextInput
  setTotalCycles : ∀ {s} v, P s → P (s.setTotalCycles v)
  ppuStep : ∀ {s}, P s → P (ppuStep s)

/-- PPU cycles keep what one PPU cycle keeps. -/
theorem ppuSteps_keeps (h : ∀ {s}, P s → P (ppuStep s)) (n : Nat) (hs : P s) : P (ppuSteps n s) := by
  induction n generalizing s with
  | zero => exact hs
  | succ n ih => exact ih (h hs)

/-- A system step of a state with no fault recorded answers a next state, and keeps every closed property. -/
theorem StepClosed.systemStep (h : StepClosed P) (hs : P s) (hf : s.fault = none) :
    ∃ t, Machine.systemStep s = .next t ∧ P t := by
  obtain ⟨c, t, ht, hp⟩ := h.cpuStep s.irqLevel (h.nextInput hs)
  refine ⟨catchUp c t, ?_, ppuSteps_keeps (P := P) h.ppuStep _ (h.setTotalCycles _ hp)⟩
  simp only [Machine.systemStep, hf, ht]

/-- Where a system step answers a next state, it keeps every closed property. -/
theorem StepClosed.keeps (h : StepClosed P) (hs : P s) {t : State} (ht : Machine.systemStep s = .next t) : P t := by
  cases hf : s.fault with
  | none =>
    obtain ⟨u, hu, hp⟩ := h.systemStep hs hf
    rw [hu] at ht
    cases ht
    exact hp
  | some r => simp [Machine.systemStep, hf] at ht

end Sys2Proof.Machine
end

