-- ==== Sys2Proof/Laws/Commute.lean ====
section
/-! SUPPORT. Bus accesses neither read nor write the CPU's registers, so they commute with the updates of them. -/

namespace Sys2Proof.Machine

@[simp] theorem peek_setA (b : Word) (x : Byte) (s : State) : (s.setA x).peek b = s.peek b := rfl
@[simp] theorem memRead_setA (addr : Word) (x : Byte) (s : State) :
    memRead addr (s.setA x) = ((memRead addr s).1, (memRead addr s).2.setA x) := by
  have h : (s.setA x).device addr = s.device addr := rfl
  unfold memRead
  rw [h]
  cases s.device addr with
  | ppu r =>
    cases r <;> try rfl
    simp only [ppuReadReg, readData]
    by_cases hd : s.ppu.dmaActive = true
    · simp only [setA_ppu, hd, if_true]
    · simp only [setA_ppu, hd]; rfl
  | _ => rfl
@[simp] theorem dmaRead_setA (addr : Word) (x : Byte) (s : State) :
    dmaRead addr (s.setA x) = ((dmaRead addr s).1, (dmaRead addr s).2.setA x) := by
  have h : (s.setA x).device addr = s.device addr := rfl
  unfold dmaRead
  rw [h]
  cases s.device addr <;> rfl
@[simp] theorem dmaBytes_setA (n : Byte) (l : List Nat) (x : Byte) (s : State) :
    l.foldl (dmaByte n) (s.setA x) = (l.foldl (dmaByte n) s).setA x := by
  induction l generalizing s with
  | nil => rfl
  | cons i l ih =>
    have h : dmaByte n (s.setA x) i = (dmaByte n s i).setA x := by simp only [dmaByte, dmaRead_setA]; rfl
    rw [List.foldl_cons, List.foldl_cons, h, ih]
@[simp] theorem ppuWrite_setA (addr : Word) (v : Byte) (x : Byte) (s : State) :
    ppuWrite addr v (s.setA x) = (ppuWrite addr v s).setA x := by
  by_cases h1 : addr.toNat % 0x4000 < 0x2000
  · simp only [ppuWrite, h1, if_true]; rfl
  · by_cases h2 : addr.toNat % 0x4000 < 0x3F00
    · simp only [ppuWrite, h1, h2, if_true, if_false]; rfl
    · simp only [ppuWrite, h1, h2, if_false]; rfl
@[simp] theorem memWrite_setA (addr : Word) (v : Byte) (x : Byte) (s : State) :
    memWrite addr v (s.setA x) = (memWrite addr v s).setA x := by
  have h : (s.setA x).device addr = s.device addr := rfl
  unfold memWrite
  rw [h]
  cases s.device addr with
  | ppu r =>
    cases r <;> try rfl
    exact congrArg (fun t : State => t.setPpu t.ppu.incrementV) (ppuWrite_setA _ v x (s.setPpu (s.ppu.refresh 0xFF v)))
  | oamDma =>
    have e : ∀ u, (s.setA x).setPpu u = (s.setPpu u).setA x := fun _ => rfl
    simp only [oamDma, setA_ppu, e, dmaBytes_setA]
    generalize List.foldl (dmaByte v) _ (List.range 256) = u
    rfl
  | _ => rfl

@[simp] theorem peek_setX (b : Word) (x : Byte) (s : State) : (s.setX x).peek b = s.peek b := rfl
@[simp] theorem memRead_setX (addr : Word) (x : Byte) (s : State) :
    memRead addr (s.setX x) = ((memRead addr s).1, (memRead addr s).2.setX x) := by
  have h : (s.setX x).device addr = s.device addr := rfl
  unfold memRead
  rw [h]
  cases s.device addr with
  | ppu r =>
    cases r <;> try rfl
    simp only [ppuReadReg, readData]
    by_cases hd : s.ppu.dmaActive = true
    · simp only [setX_ppu, hd, if_true]
    · simp only [setX_ppu, hd]; rfl
  | _ => rfl
@[simp] theorem dmaRead_setX (addr : Word) (x : Byte) (s : State) :
    dmaRead addr (s.setX x) = ((dmaRead addr s).1, (dmaRead addr s).2.setX x) := by
  have h : (s.setX x).device addr = s.device addr := rfl
  unfold dmaRead
  rw [h]
  cases s.device addr <;> rfl
@[simp] theorem dmaBytes_setX (n : Byte) (l : List Nat) (x : Byte) (s : State) :
    l.foldl (dmaByte n) (s.setX x) = (l.foldl (dmaByte n) s).setX x := by
  induction l generalizing s with
  | nil => rfl
  | cons i l ih =>
    have h : dmaByte n (s.setX x) i = (dmaByte n s i).setX x := by simp only [dmaByte, dmaRead_setX]; rfl
    rw [List.foldl_cons, List.foldl_cons, h, ih]
@[simp] theorem ppuWrite_setX (addr : Word) (v : Byte) (x : Byte) (s : State) :
    ppuWrite addr v (s.setX x) = (ppuWrite addr v s).setX x := by
  by_cases h1 : addr.toNat % 0x4000 < 0x2000
  · simp only [ppuWrite, h1, if_true]; rfl
  · by_cases h2 : addr.toNat % 0x4000 < 0x3F00
    · simp only [ppuWrite, h1, h2, if_true, if_false]; rfl
    · simp only [ppuWrite, h1, h2, if_false]; rfl
@[simp] theorem memWrite_setX (addr : Word) (v : Byte) (x : Byte) (s : State) :
    memWrite addr v (s.setX x) = (memWrite addr v s).setX x := by
  have h : (s.setX x).device addr = s.device addr := rfl
  unfold memWrite
  rw [h]
  cases s.device addr with
  | ppu r =>
    cases r <;> try rfl
    exact congrArg (fun t : State => t.setPpu t.ppu.incrementV) (ppuWrite_setX _ v x (s.setPpu (s.ppu.refresh 0xFF v)))
  | oamDma =>
    have e : ∀ u, (s.setX x).setPpu u = (s.setPpu u).setX x := fun _ => rfl
    simp only [oamDma, setX_ppu, e, dmaBytes_setX]
    generalize List.foldl (dmaByte v) _ (List.range 256) = u
    rfl
  | _ => rfl

@[simp] theorem peek_setY (b : Word) (x : Byte) (s : State) : (s.setY x).peek b = s.peek b := rfl
@[simp] theorem memRead_setY (addr : Word) (x : Byte) (s : State) :
    memRead addr (s.setY x) = ((memRead addr s).1, (memRead addr s).2.setY x) := by
  have h : (s.setY x).device addr = s.device addr := rfl
  unfold memRead
  rw [h]
  cases s.device addr with
  | ppu r =>
    cases r <;> try rfl
    simp only [ppuReadReg, readData]
    by_cases hd : s.ppu.dmaActive = true
    · simp only [setY_ppu, hd, if_true]
    · simp only [setY_ppu, hd]; rfl
  | _ => rfl
@[simp] theorem dmaRead_setY (addr : Word) (x : Byte) (s : State) :
    dmaRead addr (s.setY x) = ((dmaRead addr s).1, (dmaRead addr s).2.setY x) := by
  have h : (s.setY x).device addr = s.device addr := rfl
  unfold dmaRead
  rw [h]
  cases s.device addr <;> rfl
@[simp] theorem dmaBytes_setY (n : Byte) (l : List Nat) (x : Byte) (s : State) :
    l.foldl (dmaByte n) (s.setY x) = (l.foldl (dmaByte n) s).setY x := by
  induction l generalizing s with
  | nil => rfl
  | cons i l ih =>
    have h : dmaByte n (s.setY x) i = (dmaByte n s i).setY x := by simp only [dmaByte, dmaRead_setY]; rfl
    rw [List.foldl_cons, List.foldl_cons, h, ih]
@[simp] theorem ppuWrite_setY (addr : Word) (v : Byte) (x : Byte) (s : State) :
    ppuWrite addr v (s.setY x) = (ppuWrite addr v s).setY x := by
  by_cases h1 : addr.toNat % 0x4000 < 0x2000
  · simp only [ppuWrite, h1, if_true]; rfl
  · by_cases h2 : addr.toNat % 0x4000 < 0x3F00
    · simp only [ppuWrite, h1, h2, if_true, if_false]; rfl
    · simp only [ppuWrite, h1, h2, if_false]; rfl
@[simp] theorem memWrite_setY (addr : Word) (v : Byte) (x : Byte) (s : State) :
    memWrite addr v (s.setY x) = (memWrite addr v s).setY x := by
  have h : (s.setY x).device addr = s.device addr := rfl
  unfold memWrite
  rw [h]
  cases s.device addr with
  | ppu r =>
    cases r <;> try rfl
    exact congrArg (fun t : State => t.setPpu t.ppu.incrementV) (ppuWrite_setY _ v x (s.setPpu (s.ppu.refresh 0xFF v)))
  | oamDma =>
    have e : ∀ u, (s.setY x).setPpu u = (s.setPpu u).setY x := fun _ => rfl
    simp only [oamDma, setY_ppu, e, dmaBytes_setY]
    generalize List.foldl (dmaByte v) _ (List.range 256) = u
    rfl
  | _ => rfl

@[simp] theorem peek_setSp (b : Word) (x : Byte) (s : State) : (s.setSp x).peek b = s.peek b := rfl
@[simp] theorem memRead_setSp (addr : Word) (x : Byte) (s : State) :
    memRead addr (s.setSp x) = ((memRead addr s).1, (memRead addr s).2.setSp x) := by
  have h : (s.setSp x).device addr = s.device addr := rfl
  unfold memRead
  rw [h]
  cases s.device addr with
  | ppu r =>
    cases r <;> try rfl
    simp only [ppuReadReg, readData]
    by_cases hd : s.ppu.dmaActive = true
    · simp only [setSp_ppu, hd, if_true]
    · simp only [setSp_ppu, hd]; rfl
  | _ => rfl
@[simp] theorem dmaRead_setSp (addr : Word) (x : Byte) (s : State) :
    dmaRead addr (s.setSp x) = ((dmaRead addr s).1, (dmaRead addr s).2.setSp x) := by
  have h : (s.setSp x).device addr = s.device addr := rfl
  unfold dmaRead
  rw [h]
  cases s.device addr <;> rfl
@[simp] theorem dmaBytes_setSp (n : Byte) (l : List Nat) (x : Byte) (s : State) :
    l.foldl (dmaByte n) (s.setSp x) = (l.foldl (dmaByte n) s).setSp x := by
  induction l generalizing s with
  | nil => rfl
  | cons i l ih =>
    have h : dmaByte n (s.setSp x) i = (dmaByte n s i).setSp x := by simp only [dmaByte, dmaRead_setSp]; rfl
    rw [List.foldl_cons, List.foldl_cons, h, ih]
@[simp] theorem ppuWrite_setSp (addr : Word) (v : Byte) (x : Byte) (s : State) :
    ppuWrite addr v (s.setSp x) = (ppuWrite addr v s).setSp x := by
  by_cases h1 : addr.toNat % 0x4000 < 0x2000
  · simp only [ppuWrite, h1, if_true]; rfl
  · by_cases h2 : addr.toNat % 0x4000 < 0x3F00
    · simp only [ppuWrite, h1, h2, if_true, if_false]; rfl
    · simp only [ppuWrite, h1, h2, if_false]; rfl
@[simp] theorem memWrite_setSp (addr : Word) (v : Byte) (x : Byte) (s : State) :
    memWrite addr v (s.setSp x) = (memWrite addr v s).setSp x := by
  have h : (s.setSp x).device addr = s.device addr := rfl
  unfold memWrite
  rw [h]
  cases s.device addr with
  | ppu r =>
    cases r <;> try rfl
    exact congrArg (fun t : State => t.setPpu t.ppu.incrementV) (ppuWrite_setSp _ v x (s.setPpu (s.ppu.refresh 0xFF v)))
  | oamDma =>
    have e : ∀ u, (s.setSp x).setPpu u = (s.setPpu u).setSp x := fun _ => rfl
    simp only [oamDma, setSp_ppu, e, dmaBytes_setSp]
    generalize List.foldl (dmaByte v) _ (List.range 256) = u
    rfl
  | _ => rfl

@[simp] theorem peek_setPc (b : Word) (x : Word) (s : State) : (s.setPc x).peek b = s.peek b := rfl
@[simp] theorem memRead_setPc (addr : Word) (x : Word) (s : State) :
    memRead addr (s.setPc x) = ((memRead addr s).1, (memRead addr s).2.setPc x) := by
  have h : (s.setPc x).device addr = s.device addr := rfl
  unfold memRead
  rw [h]
  cases s.device addr with
  | ppu r =>
    cases r <;> try rfl
    simp only [ppuReadReg, readData]
    by_cases hd : s.ppu.dmaActive = true
    · simp only [setPc_ppu, hd, if_true]
    · simp only [setPc_ppu, hd]; rfl
  | _ => rfl
@[simp] theorem dmaRead_setPc (addr : Word) (x : Word) (s : State) :
    dmaRead addr (s.setPc x) = ((dmaRead addr s).1, (dmaRead addr s).2.setPc x) := by
  have h : (s.setPc x).device addr = s.device addr := rfl
  unfold dmaRead
  rw [h]
  cases s.device addr <;> rfl
@[simp] theorem dmaBytes_setPc (n : Byte) (l : List Nat) (x : Word) (s : State) :
    l.foldl (dmaByte n) (s.setPc x) = (l.foldl (dmaByte n) s).setPc x := by
  induction l generalizing s with
  | nil => rfl
  | cons i l ih =>
    have h : dmaByte n (s.setPc x) i = (dmaByte n s i).setPc x := by simp only [dmaByte, dmaRead_setPc]; rfl
    rw [List.foldl_cons, List.foldl_cons, h, ih]
@[simp] theorem ppuWrite_setPc (addr : Word) (v : Byte) (x : Word) (s : State) :
    ppuWrite addr v (s.setPc x) = (ppuWrite addr v s).setPc x := by
  by_cases h1 : addr.toNat % 0x4000 < 0x2000
  · simp only [ppuWrite, h1, if_true]; rfl
  · by_cases h2 : addr.toNat % 0x4000 < 0x3F00
    · simp only [ppuWrite, h1, h2, if_true, if_false]; rfl
    · simp only [ppuWrite, h1, h2, if_false]; rfl
@[simp] theorem memWrite_setPc (addr : Word) (v : Byte) (x : Word) (s : State) :
    memWrite addr v (s.setPc x) = (memWrite addr v s).setPc x := by
  have h : (s.setPc x).device addr = s.device addr := rfl
  unfold memWrite
  rw [h]
  cases s.device addr with
  | ppu r =>
    cases r <;> try rfl
    exact congrArg (fun t : State => t.setPpu t.ppu.incrementV) (ppuWrite_setPc _ v x (s.setPpu (s.ppu.refresh 0xFF v)))
  | oamDma =>
    have e : ∀ u, (s.setPc x).setPpu u = (s.setPpu u).setPc x := fun _ => rfl
    simp only [oamDma, setPc_ppu, e, dmaBytes_setPc]
    generalize List.foldl (dmaByte v) _ (List.range 256) = u
    rfl
  | _ => rfl

@[simp] theorem peek_setP (b : Word) (x : Flags) (s : State) : (s.setP x).peek b = s.peek b := rfl
@[simp] theorem memRead_setP (addr : Word) (x : Flags) (s : State) :
    memRead addr (s.setP x) = ((memRead addr s).1, (memRead addr s).2.setP x) := by
  have h : (s.setP x).device addr = s.device addr := rfl
  unfold memRead
  rw [h]
  cases s.device addr with
  | ppu r =>
    cases r <;> try rfl
    simp only [ppuReadReg, readData]
    by_cases hd : s.ppu.dmaActive = true
    · simp only [setP_ppu, hd, if_true]
    · simp only [setP_ppu, hd]; rfl
  | _ => rfl
@[simp] theorem dmaRead_setP (addr : Word) (x : Flags) (s : State) :
    dmaRead addr (s.setP x) = ((dmaRead addr s).1, (dmaRead addr s).2.setP x) := by
  have h : (s.setP x).device addr = s.device addr := rfl
  unfold dmaRead
  rw [h]
  cases s.device addr <;> rfl
@[simp] theorem dmaBytes_setP (n : Byte) (l : List Nat) (x : Flags) (s : State) :
    l.foldl (dmaByte n) (s.setP x) = (l.foldl (dmaByte n) s).setP x := by
  induction l generalizing s with
  | nil => rfl
  | cons i l ih =>
    have h : dmaByte n (s.setP x) i = (dmaByte n s i).setP x := by simp only [dmaByte, dmaRead_setP]; rfl
    rw [List.foldl_cons, List.foldl_cons, h, ih]
@[simp] theorem ppuWrite_setP (addr : Word) (v : Byte) (x : Flags) (s : State) :
    ppuWrite addr v (s.setP x) = (ppuWrite addr v s).setP x := by
  by_cases h1 : addr.toNat % 0x4000 < 0x2000
  · simp only [ppuWrite, h1, if_true]; rfl
  · by_cases h2 : addr.toNat % 0x4000 < 0x3F00
    · simp only [ppuWrite, h1, h2, if_true, if_false]; rfl
    · simp only [ppuWrite, h1, h2, if_false]; rfl
@[simp] theorem memWrite_setP (addr : Word) (v : Byte) (x : Flags) (s : State) :
    memWrite addr v (s.setP x) = (memWrite addr v s).setP x := by
  have h : (s.setP x).device addr = s.device addr := rfl
  unfold memWrite
  rw [h]
  cases s.device addr with
  | ppu r =>
    cases r <;> try rfl
    exact congrArg (fun t : State => t.setPpu t.ppu.incrementV) (ppuWrite_setP _ v x (s.setPpu (s.ppu.refresh 0xFF v)))
  | oamDma =>
    have e : ∀ u, (s.setP x).setPpu u = (s.setPpu u).setP x := fun _ => rfl
    simp only [oamDma, setP_ppu, e, dmaBytes_setP]
    generalize List.foldl (dmaByte v) _ (List.range 256) = u
    rfl
  | _ => rfl

@[simp] theorem peek_setPageCrossed (b : Word) (x : Bool) (s : State) : (s.setPageCrossed x).peek b = s.peek b := rfl
@[simp] theorem memRead_setPageCrossed (addr : Word) (x : Bool) (s : State) :
    memRead addr (s.setPageCrossed x) = ((memRead addr s).1, (memRead addr s).2.setPageCrossed x) := by
  have h : (s.setPageCrossed x).device addr = s.device addr := rfl
  unfold memRead
  rw [h]
  cases s.device addr with
  | ppu r =>
    cases r <;> try rfl
    simp only [ppuReadReg, readData]
    by_cases hd : s.ppu.dmaActive = true
    · simp only [setPageCrossed_ppu, hd, if_true]
    · simp only [setPageCrossed_ppu, hd]; rfl
  | _ => rfl
@[simp] theorem dmaRead_setPageCrossed (addr : Word) (x : Bool) (s : State) :
    dmaRead addr (s.setPageCrossed x) = ((dmaRead addr s).1, (dmaRead addr s).2.setPageCrossed x) := by
  have h : (s.setPageCrossed x).device addr = s.device addr := rfl
  unfold dmaRead
  rw [h]
  cases s.device addr <;> rfl
@[simp] theorem dmaBytes_setPageCrossed (n : Byte) (l : List Nat) (x : Bool) (s : State) :
    l.foldl (dmaByte n) (s.setPageCrossed x) = (l.foldl (dmaByte n) s).setPageCrossed x := by
  induction l generalizing s with
  | nil => rfl
  | cons i l ih =>
    have h : dmaByte n (s.setPageCrossed x) i = (dmaByte n s i).setPageCrossed x := by simp only [dmaByte, dmaRead_setPageCrossed]; rfl
    rw [List.foldl_cons, List.foldl_cons, h, ih]
@[simp] theorem ppuWrite_setPageCrossed (addr : Word) (v : Byte) (x : Bool) (s : State) :
    ppuWrite addr v (s.setPageCrossed x) = (ppuWrite addr v s).setPageCrossed x := by
  by_cases h1 : addr.toNat % 0x4000 < 0x2000
  · simp only [ppuWrite, h1, if_true]; rfl
  · by_cases h2 : addr.toNat % 0x4000 < 0x3F00
    · simp only [ppuWrite, h1, h2, if_true, if_false]; rfl
    · simp only [ppuWrite, h1, h2, if_false]; rfl
@[simp] theorem memWrite_setPageCrossed (addr : Word) (v : Byte) (x : Bool) (s : State) :
    memWrite addr v (s.setPageCrossed x) = (memWrite addr v s).setPageCrossed x := by
  have h : (s.setPageCrossed x).device addr = s.device addr := rfl
  unfold memWrite
  rw [h]
  cases s.device addr with
  | ppu r =>
    cases r <;> try rfl
    exact congrArg (fun t : State => t.setPpu t.ppu.incrementV) (ppuWrite_setPageCrossed _ v x (s.setPpu (s.ppu.refresh 0xFF v)))
  | oamDma =>
    have e : ∀ u, (s.setPageCrossed x).setPpu u = (s.setPpu u).setPageCrossed x := fun _ => rfl
    simp only [oamDma, setPageCrossed_ppu, e, dmaBytes_setPageCrossed]
    generalize List.foldl (dmaByte v) _ (List.range 256) = u
    rfl
  | _ => rfl

@[simp] theorem peek_setBranchTaken (b : Word) (x : Bool) (s : State) : (s.setBranchTaken x).peek b = s.peek b := rfl
@[simp] theorem memRead_setBranchTaken (addr : Word) (x : Bool) (s : State) :
    memRead addr (s.setBranchTaken x) = ((memRead addr s).1, (memRead addr s).2.setBranchTaken x) := by
  have h : (s.setBranchTaken x).device addr = s.device addr := rfl
  unfold memRead
  rw [h]
  cases s.device addr with
  | ppu r =>
    cases r <;> try rfl
    simp only [ppuReadReg, readData]
    by_cases hd : s.ppu.dmaActive = true
    · simp only [setBranchTaken_ppu, hd, if_true]
    · simp only [setBranchTaken_ppu, hd]; rfl
  | _ => rfl
@[simp] theorem dmaRead_setBranchTaken (addr : Word) (x : Bool) (s : State) :
    dmaRead addr (s.setBranchTaken x) = ((dmaRead addr s).1, (dmaRead addr s).2.setBranchTaken x) := by
  have h : (s.setBranchTaken x).device addr = s.device addr := rfl
  unfold dmaRead
  rw [h]
  cases s.device addr <;> rfl
@[simp] theorem dmaBytes_setBranchTaken (n : Byte) (l : List Nat) (x : Bool) (s : State) :
    l.foldl (dmaByte n) (s.setBranchTaken x) = (l.foldl (dmaByte n) s).setBranchTaken x := by
  induction l generalizing s with
  | nil => rfl
  | cons i l ih =>
    have h : dmaByte n (s.setBranchTaken x) i = (dmaByte n s i).setBranchTaken x := by simp only [dmaByte, dmaRead_setBranchTaken]; rfl
    rw [List.foldl_cons, List.foldl_cons, h, ih]
@[simp] theorem ppuWrite_setBranchTaken (addr : Word) (v : Byte) (x : Bool) (s : State) :
    ppuWrite addr v (s.setBranchTaken x) = (ppuWrite addr v s).setBranchTaken x := by
  by_cases h1 : addr.toNat % 0x4000 < 0x2000
  · simp only [ppuWrite, h1, if_true]; rfl
  · by_cases h2 : addr.toNat % 0x4000 < 0x3F00
    · simp only [ppuWrite, h1, h2, if_true, if_false]; rfl
    · simp only [ppuWrite, h1, h2, if_false]; rfl
@[simp] theorem memWrite_setBranchTaken (addr : Word) (v : Byte) (x : Bool) (s : State) :
    memWrite addr v (s.setBranchTaken x) = (memWrite addr v s).setBranchTaken x := by
  have h : (s.setBranchTaken x).device addr = s.device addr := rfl
  unfold memWrite
  rw [h]
  cases s.device addr with
  | ppu r =>
    cases r <;> try rfl
    exact congrArg (fun t : State => t.setPpu t.ppu.incrementV) (ppuWrite_setBranchTaken _ v x (s.setPpu (s.ppu.refresh 0xFF v)))
  | oamDma =>
    have e : ∀ u, (s.setBranchTaken x).setPpu u = (s.setPpu u).setBranchTaken x := fun _ => rfl
    simp only [oamDma, setBranchTaken_ppu, e, dmaBytes_setBranchTaken]
    generalize List.foldl (dmaByte v) _ (List.range 256) = u
    rfl
  | _ => rfl

end Sys2Proof.Machine
end

