-- ==== Sys2Proof/Laws/Memory.lean ====
section
/-! SUPPORT. The laws of a memory: read after write, the canonical form, and that equal reads make equal memories. -/

namespace Sys2Proof.Machine

@[simp] theorem Mem.read_nil (a : Nat) : Mem.read [] a = Mem.fill := rfl

theorem Mem.read_put_self {m : Mem} {a : Nat} (v : Byte) (h : Mem.read m a = Mem.fill) :
    Mem.read (Mem.put a v m) a = v := by
  unfold Mem.put
  split
  · simp_all
  · simp [Mem.read]

/-- Below every listed address a memory reads as the fill. -/
theorem Mem.read_lt_of_wfFrom {m : Mem} {lo size a : Nat} (h : Mem.wfFrom lo size m = true) (ha : a < lo) :
    Mem.read m a = Mem.fill := by
  cases m with
  | nil => rfl
  | cons c m =>
    obtain ⟨k, v⟩ := c
    simp only [Mem.wfFrom, Bool.and_eq_true, decide_eq_true_eq] at h
    have h1 : a ≠ k := by omega
    have h2 : a < k := by omega
    simp [Mem.read, h1, h2]

theorem Mem.read_put_ne {m : Mem} {a b lo size : Nat} {v : Byte} (hm : Mem.wfFrom lo size m = true)
    (hlo : a < lo) (hb : b ≠ a) : Mem.read (Mem.put a v m) b = Mem.read m b := by
  unfold Mem.put
  split
  · rfl
  · rename_i hv
    by_cases hlt : b < a
    · rw [Mem.read_lt_of_wfFrom hm (by omega)]
      simp [Mem.read, hb, hlt]
    · simp [Mem.read, hb, hlt]

/-- A wider lower bound is still one. -/
theorem Mem.wfFrom_mono {m : Mem} {lo lo' size : Nat} (h : Mem.wfFrom lo size m = true) (hl : lo' ≤ lo) :
    Mem.wfFrom lo' size m = true := by
  cases m with
  | nil => rfl
  | cons c m =>
    obtain ⟨k, v⟩ := c
    simp only [Mem.wfFrom, Bool.and_eq_true, decide_eq_true_eq] at h ⊢
    obtain ⟨⟨⟨h1, h2⟩, h3⟩, h4⟩ := h
    exact ⟨⟨⟨by omega, h2⟩, h3⟩, h4⟩

theorem Mem.wfFrom_put {m : Mem} {a size lo lo' : Nat} (v : Byte) (hm : Mem.wfFrom lo' size m = true)
    (ha : a < lo') (hlo : lo ≤ a) (hs : a < size) : Mem.wfFrom lo size (Mem.put a v m) = true := by
  unfold Mem.put
  split
  · exact Mem.wfFrom_mono hm (by omega)
  · rename_i hv
    simp only [Mem.wfFrom, Bool.and_eq_true, decide_eq_true_eq, bne_iff_ne, ne_eq]
    exact ⟨⟨⟨hlo, hs⟩, hv⟩, Mem.wfFrom_mono hm (by omega)⟩

/-- A write inside the size keeps the canonical form. -/
theorem Mem.wfFrom_write {m : Mem} {lo size a : Nat} (v : Byte) (h : Mem.wfFrom lo size m = true)
    (hlo : lo ≤ a) (hs : a < size) : Mem.wfFrom lo size (Mem.write m a v) = true := by
  induction m generalizing lo with
  | nil => exact Mem.wfFrom_put v (lo' := a + 1) rfl (by omega) hlo hs
  | cons c m ih =>
    obtain ⟨k, w⟩ := c
    simp only [Mem.wfFrom, Bool.and_eq_true, decide_eq_true_eq] at h
    obtain ⟨⟨⟨h1, h2⟩, h3⟩, h4⟩ := h
    unfold Mem.write
    split
    · refine Mem.wfFrom_put (lo' := a + 1) v ?_ (by omega) hlo hs
      simp only [Mem.wfFrom, Bool.and_eq_true, decide_eq_true_eq]
      exact ⟨⟨⟨by omega, h2⟩, h3⟩, h4⟩
    · split
      · rename_i hk
        subst hk
        exact Mem.wfFrom_put v h4 (by omega) hlo hs
      · simp only [Mem.wfFrom, Bool.and_eq_true, decide_eq_true_eq]
        exact ⟨⟨⟨h1, h2⟩, h3⟩, ih h4 (by omega)⟩

/-- A write inside the size keeps the canonical form. -/
theorem Mem.wf_write {m : Mem} {size a : Nat} (v : Byte) (h : Mem.wf size m = true) (ha : a < size) :
    Mem.wf size (Mem.write m a v) = true :=
  Mem.wfFrom_write v h (Nat.zero_le a) ha

/-- A read of the address just written gives the value, in any list of cells. -/
theorem Mem.read_write_self (m : Mem) (a : Nat) (v : Byte) (h : ∃ lo size, Mem.wfFrom lo size m = true) :
    Mem.read (Mem.write m a v) a = v := by
  obtain ⟨lo, size, h⟩ := h
  induction m generalizing lo with
  | nil => exact Mem.read_put_self v rfl
  | cons c m ih =>
    obtain ⟨k, w⟩ := c
    simp only [Mem.wfFrom, Bool.and_eq_true, decide_eq_true_eq] at h
    obtain ⟨⟨⟨h1, h2⟩, h3⟩, h4⟩ := h
    unfold Mem.write
    split
    · rename_i hk
      refine Mem.read_put_self v ?_
      have : a ≠ k := by omega
      simp [Mem.read, this, hk]
    · split
      · rename_i hk
        subst hk
        exact Mem.read_put_self v (Mem.read_lt_of_wfFrom h4 (by omega))
      · rename_i h5 h6
        have : ¬ a < k := h5
        simp only [Mem.read, h6, this, if_false]
        exact ih _ h4

/-- A write leaves every other address alone. -/
theorem Mem.read_write_ne (m : Mem) (a b : Nat) (v : Byte) (h : ∃ lo size, Mem.wfFrom lo size m = true)
    (hb : b ≠ a) : Mem.read (Mem.write m a v) b = Mem.read m b := by
  obtain ⟨lo, size, h⟩ := h
  induction m generalizing lo with
  | nil => exact Mem.read_put_ne (lo := a + 1) (size := 0) rfl (by omega) hb
  | cons c m ih =>
    obtain ⟨k, w⟩ := c
    have h' := h
    simp only [Mem.wfFrom, Bool.and_eq_true, decide_eq_true_eq] at h
    obtain ⟨⟨⟨h1, h2⟩, h3⟩, h4⟩ := h
    unfold Mem.write
    split
    · rename_i hk
      refine Mem.read_put_ne (lo := k) (size := size) ?_ hk hb
      simp only [Mem.wfFrom, Bool.and_eq_true, decide_eq_true_eq]
      exact ⟨⟨⟨by omega, h2⟩, h3⟩, h4⟩
    · split
      · rename_i hk
        subst hk
        rw [Mem.read_put_ne h4 (by omega) hb]
        by_cases hlt : b < a
        · simp [Mem.read, hb, hlt, Mem.read_lt_of_wfFrom h4 (show b < a + 1 by omega)]
        · simp [Mem.read, hb, hlt]
      · simp only [Mem.read]
        rw [ih _ h4]

/-- A canonical memory is determined by what it reads as. -/
theorem Mem.eq_of_read_eq {m m' : Mem} {lo size lo' size' : Nat} (h : Mem.wfFrom lo size m = true)
    (h' : Mem.wfFrom lo' size' m' = true) (hr : ∀ a, Mem.read m a = Mem.read m' a) : m = m' := by
  induction m generalizing m' lo lo' with
  | nil =>
    cases m' with
    | nil => rfl
    | cons c m' =>
      obtain ⟨k, v⟩ := c
      simp only [Mem.wfFrom, Bool.and_eq_true, bne_iff_ne, ne_eq] at h'
      have := hr k
      simp [Mem.read] at this
      exact absurd this.symm h'.1.2
  | cons c m ih =>
    obtain ⟨k, v⟩ := c
    simp only [Mem.wfFrom, Bool.and_eq_true, decide_eq_true_eq, bne_iff_ne, ne_eq] at h
    obtain ⟨⟨⟨h1, h2⟩, h3⟩, h4⟩ := h
    cases m' with
    | nil =>
      have := hr k
      simp [Mem.read] at this
      exact absurd this h3
    | cons c' m' =>
      obtain ⟨k', v'⟩ := c'
      simp only [Mem.wfFrom, Bool.and_eq_true, decide_eq_true_eq, bne_iff_ne, ne_eq] at h'
      obtain ⟨⟨⟨g1, g2⟩, g3⟩, g4⟩ := h'
      have hk : k = k' := by
        rcases Nat.lt_trichotomy k k' with hlt | heq | hgt
        · have := hr k
          simp [Mem.read, hlt, (show k ≠ k' by omega)] at this
          exact absurd this h3
        · exact heq
        · have := hr k'
          simp [Mem.read, hgt, (show k' ≠ k by omega)] at this
          exact absurd this.symm g3
      subst hk
      have hv : v = v' := by simpa [Mem.read] using hr k
      subst hv
      have : m = m' := by
        refine ih h4 g4 fun a => ?_
        by_cases hak : a < k + 1
        · rw [Mem.read_lt_of_wfFrom h4 hak, Mem.read_lt_of_wfFrom g4 hak]
        · have := hr a
          simpa [Mem.read, (show a ≠ k by omega), (show ¬ a < k by omega)] using this
      rw [this]

/-- The memory made of a list of bytes is canonical. -/
theorem Mem.wfFrom_ofBytesFrom (a size : Nat) (bs : List Byte) (h : a + bs.length ≤ size) :
    Mem.wfFrom a size (Mem.ofBytesFrom a bs) = true := by
  induction bs generalizing a with
  | nil => rfl
  | cons b bs ih =>
    simp only [List.length_cons] at h
    exact Mem.wfFrom_put b (ih (a + 1) (by omega)) (by omega) (Nat.le_refl a) (by omega)

/-- The memory made of a list of bytes is canonical. -/
theorem Mem.wf_ofBytes (size : Nat) (bs : List Byte) (h : bs.length ≤ size) :
    Mem.wf size (Mem.ofBytes bs) = true :=
  Mem.wfFrom_ofBytesFrom 0 size bs (by omega)

/-- The memory made of a list of bytes reads as the list. -/
theorem Mem.read_ofBytesFrom (a k : Nat) (bs : List Byte) (hk : k < bs.length) :
    Mem.read (Mem.ofBytesFrom a bs) (a + k) = bs.getD k 0 := by
  induction bs generalizing a k with
  | nil => simp at hk
  | cons b bs ih =>
    have hw : Mem.wfFrom (a + 1) (a + 1 + bs.length) (Mem.ofBytesFrom (a + 1) bs) = true :=
      Mem.wfFrom_ofBytesFrom _ _ _ (Nat.le_refl _)
    cases k with
    | zero => simpa [Mem.ofBytesFrom] using Mem.read_put_self b (Mem.read_lt_of_wfFrom hw (Nat.lt_succ_self a))
    | succ k =>
      have := ih (a + 1) k (by simpa using hk)
      rw [Mem.ofBytesFrom, Mem.read_put_ne hw (Nat.lt_succ_self a) (by omega)]
      rw [show a + (k + 1) = a + 1 + k by omega, this]
      simp

end Sys2Proof.Machine
end

