-- ==== Sys2Proof/Laws/Frame.lean ====
section
/-! SUPPORT. The frame of a bus write: which bytes of memory it leaves, and what it leaves at its own address. -/

namespace Sys2Proof.Machine

/-- A memory in canonical form, whatever its bounds. -/
theorem Mem.wfFrom_exists {size : Nat} {m : Mem} (h : Mem.wf size m = true) :
    ∃ lo size, Mem.wfFrom lo size m = true :=
  ⟨0, size, h⟩

/-- What a cartridge shows depends on its PRG, its header and its mapper only. -/
theorem cart_read_congr {c d : Cartridge} (hp : d.prg = c.prg) (hm : d.mapper = c.mapper)
    (hb : d.prgBanks = c.prgBanks) (h1 : d.mmc1 = c.mmc1) (a : Nat) : d.read a = c.read a := by
  simp only [Cartridge.read, Cartridge.prgOffset, Cartridge.kind, mmc1PrgOffset, Cartridge.prgSize, hp, hm, hb, h1]

/-- What a program sees of memory depends on RAM, PRG RAM and what the cartridge shows only. -/
theorem peek_congr {s t : State} (hr : t.ram = s.ram) (hq : t.cart.prgRam = s.cart.prgRam)
    (hh : t.cart.hasPrgRam = s.cart.hasPrgRam) (b : Word) (hc : t.cart.read b.toNat = s.cart.read b.toNat) :
    t.peek b = s.peek b := by
  simp only [State.peek, State.device, hr, hq, hh, hc]

/-- Where each device answers. -/
theorem device_eq_ram {s : State} {a : Word} {o : Nat} (h : s.device a = .ram o) :
    a.toNat < 0x2000 ∧ o = a.toNat % 0x800 := by
  simp only [State.device, busDevice] at h
  split at h
  · exact ⟨by assumption, by simpa using h.symm⟩
  · exfalso
    revert h
    repeat' split
    all_goals simp

theorem device_eq_prgRam {s : State} {a : Word} {o : Nat} (h : s.device a = .prgRam o) :
    0x6000 ≤ a.toNat ∧ a.toNat < 0x8000 ∧ s.cart.hasPrgRam = true ∧ o = a.toNat - 0x6000 := by
  simp only [State.device, busDevice] at h
  repeat' split at h
  all_goals first
    | (simp at h; done)
    | exact ⟨by omega, by omega, by assumption, by simpa using h.symm⟩

theorem device_eq_cartridge {s : State} {a : Word} (h : s.device a = .cartridge) : 0x8000 ≤ a.toNat := by
  simp only [State.device, busDevice] at h
  repeat' split at h
  all_goals first
    | (simp at h; done)
    | omega

/-- A bus write leaves every byte of memory but the one at its address, and its mirrors if that is RAM; a write to the
MMC1 may bank other ROM bytes in. -/
theorem memWrite_peek_ne {a b : Word} (v : Byte) {s : State} {n : Nat} (hr : s.ram.wf 0x800 = true)
    (hq : s.cart.prgRam.wf n = true) (hab : a ≠ b)
    (hm : a.toNat < 0x2000 → b.toNat < 0x2000 → a.toNat % 0x800 ≠ b.toNat % 0x800)
    (hk : b.toNat < 0x8000 ∨ a.toNat < 0x8000 ∨ s.cart.kind = .nrom) :
    (memWrite a v s).peek b = s.peek b := by
  have hab' : a.toNat ≠ b.toNat := fun h => hab (BitVec.eq_of_toNat_eq h)
  unfold memWrite
  cases hd : s.device a with
  | ram o =>
    obtain ⟨h1, rfl⟩ := device_eq_ram hd
    simp only [State.peek]
    have e : (s.setRam (s.ram.write (a.toNat % 0x800) v)).device b = s.device b := rfl
    rw [e]
    cases hb : s.device b with
    | ram o' =>
      obtain ⟨h2, rfl⟩ := device_eq_ram hb
      rw [setRam_ram]
      exact congrArg some (Mem.read_write_ne _ _ _ v (Mem.wfFrom_exists hr) (hm h1 h2).symm)
    | _ => rfl
  | prgRam o =>
    have h0 := device_eq_prgRam hd
    obtain ⟨h1, h2, h3, h7⟩ := h0
    simp only [State.peek]
    have e : (s.setCart { s.cart with prgRam := s.cart.prgRam.write o v }).device b = s.device b := rfl
    rw [e]
    cases hb : s.device b with
    | prgRam o' =>
      have h0 := device_eq_prgRam hb
      obtain ⟨h4, h5, h6, h8⟩ := h0
      exact congrArg some (Mem.read_write_ne _ _ _ v (Mem.wfFrom_exists hq) (by omega))
    | _ => rfl
  | cartridge =>
    have h1 := device_eq_cartridge hd
    simp only
    rcases hk with hk | hk | hk
    · simp only [State.peek]
      have e : (s.setCart (s.cart.write a.toNat v)).device b = s.device b := by
        simp only [State.device, setCart_cart, cartWrite_hasPrgRam]
      rw [e]
      cases hb : s.device b with
      | cartridge => exact absurd (device_eq_cartridge hb) (by omega)
      | prgRam o' =>
        simp only [setCart_cart]
        have : (s.cart.write a.toNat v).prgRam = s.cart.prgRam := by unfold Cartridge.write; split <;> rfl
        rw [this]
      | _ => rfl
    · omega
    · have : s.cart.write a.toNat v = s.cart := by simp only [Cartridge.write, hk]
      rw [this]
      rfl
  | ppu r =>
    exact peek_congr (by simp) (by simp) (by simp) b (cart_read_congr (by simp) (by simp) (by simp) (by simp) _)
  | oamDma => exact peek_congr (by simp) (by simp) (by simp) b (by simp)
  | pad1 => rfl
  | pad2 => rfl
  | apu => rfl
  | unmapped => rfl

/-- A byte written to RAM or PRG RAM is there. -/
theorem memWrite_peek_self {a : Word} (v : Byte) {s : State} {n : Nat} (hr : s.ram.wf 0x800 = true)
    (hq : s.cart.prgRam.wf n = true)
    (h : a.toNat < 0x2000 ∨ (0x6000 ≤ a.toNat ∧ a.toNat < 0x8000 ∧ s.cart.hasPrgRam = true)) :
    (memWrite a v s).peek a = some v := by
  rcases h with h | ⟨h1, h2, h3⟩
  · have e : (memWrite a v s).device a = .ram (a.toNat % 0x800) := device_ram _ h
    rw [memWrite_of_ram v s h] at e ⊢
    simp only [State.peek, e, setRam_ram, Mem.read_write_self _ _ _ (Mem.wfFrom_exists hr)]
  · have hd : s.device a = .prgRam (a.toNat - 0x6000) := by
      simp only [State.device, busDevice, h3]
      repeat' split
      all_goals first | omega | rfl | contradiction
    unfold memWrite
    rw [hd]
    simp only [State.peek]
    have e : (s.setCart { s.cart with prgRam := s.cart.prgRam.write (a.toNat - 0x6000) v }).device a = s.device a := rfl
    rw [e, hd]
    simp only [setCart_cart, Mem.read_write_self _ _ _ (Mem.wfFrom_exists hq)]

end Sys2Proof.Machine
end

