-- ==== Sys2Proof/Laws/PerInstr.lean ====
section
/-! SUPPORT. What holds of each instruction as syntax: its opcode byte's entry of the table has its mode's length and
makes it again from its operand bytes. One lemma per constructor. -/

namespace Sys2Proof

/-- The offset of a well-formed branch is read back from its byte. -/
theorem operandOffset_ofInt {off : Int} (h : offsetInRange off = true) : operandOffset (BitVec.ofInt 8 off) = off := by
  simp only [offsetInRange, Bool.and_eq_true, decide_eq_true_eq] at h
  rw [operandOffset, BitVec.toInt_ofInt]
  apply Int.bmod_eq_of_le <;> omega

namespace Laws.TableAgrees

/-- The table's entry for an instruction's opcode byte is its own: it makes the instruction from its bytes. -/
def Statement (i : Instr) : Prop :=
  ∃ row, table i.opcode = some row ∧ row.opcode = i.opcode ∧ row.mode.operandLength = i.operandBytes.length ∧
    (i.wellFormed = true → row.make (i.operandBytes.getD 0 0) (i.operandBytes.getD 1 0) = i)

theorem ldaIndX (z : Byte) : Statement (.ldaIndX z) :=
  ⟨⟨0xA1, .lda, .indexedIndirectX, 6, false, fun b1 _ => .ldaIndX b1⟩,
    (rfl : table 0xA1 = some _), rfl, rfl, fun _ => rfl⟩

theorem ldaZp (z : Byte) : Statement (.ldaZp z) :=
  ⟨⟨0xA5, .lda, .zeroPage, 3, false, fun b1 _ => .ldaZp b1⟩,
    (rfl : table 0xA5 = some _), rfl, rfl, fun _ => rfl⟩

theorem ldaImm (v : Byte) : Statement (.ldaImm v) :=
  ⟨⟨0xA9, .lda, .immediate, 2, false, fun b1 _ => .ldaImm b1⟩,
    (rfl : table 0xA9 = some _), rfl, rfl, fun _ => rfl⟩

theorem ldaAbs (a : Word) : Statement (.ldaAbs a) :=
  ⟨⟨0xAD, .lda, .absolute, 4, false, fun b1 b2 => .ldaAbs (word b2 b1)⟩,
    (rfl : table 0xAD = some _), rfl, rfl, fun _ => congrArg Instr.ldaAbs (word_hiByte_loByte a)⟩

theorem ldaIndY (z : Byte) : Statement (.ldaIndY z) :=
  ⟨⟨0xB1, .lda, .indirectIndexedY, 5, true, fun b1 _ => .ldaIndY b1⟩,
    (rfl : table 0xB1 = some _), rfl, rfl, fun _ => rfl⟩

theorem ldaZpX (z : Byte) : Statement (.ldaZpX z) :=
  ⟨⟨0xB5, .lda, .zeroPageX, 4, false, fun b1 _ => .ldaZpX b1⟩,
    (rfl : table 0xB5 = some _), rfl, rfl, fun _ => rfl⟩

theorem ldaAbsY (a : Word) : Statement (.ldaAbsY a) :=
  ⟨⟨0xB9, .lda, .absoluteY, 4, true, fun b1 b2 => .ldaAbsY (word b2 b1)⟩,
    (rfl : table 0xB9 = some _), rfl, rfl, fun _ => congrArg Instr.ldaAbsY (word_hiByte_loByte a)⟩

theorem ldaAbsX (a : Word) : Statement (.ldaAbsX a) :=
  ⟨⟨0xBD, .lda, .absoluteX, 4, true, fun b1 b2 => .ldaAbsX (word b2 b1)⟩,
    (rfl : table 0xBD = some _), rfl, rfl, fun _ => congrArg Instr.ldaAbsX (word_hiByte_loByte a)⟩

theorem ldxImm (v : Byte) : Statement (.ldxImm v) :=
  ⟨⟨0xA2, .ldx, .immediate, 2, false, fun b1 _ => .ldxImm b1⟩,
    (rfl : table 0xA2 = some _), rfl, rfl, fun _ => rfl⟩

theorem ldxZp (z : Byte) : Statement (.ldxZp z) :=
  ⟨⟨0xA6, .ldx, .zeroPage, 3, false, fun b1 _ => .ldxZp b1⟩,
    (rfl : table 0xA6 = some _), rfl, rfl, fun _ => rfl⟩

theorem ldxAbs (a : Word) : Statement (.ldxAbs a) :=
  ⟨⟨0xAE, .ldx, .absolute, 4, false, fun b1 b2 => .ldxAbs (word b2 b1)⟩,
    (rfl : table 0xAE = some _), rfl, rfl, fun _ => congrArg Instr.ldxAbs (word_hiByte_loByte a)⟩

theorem ldxZpY (z : Byte) : Statement (.ldxZpY z) :=
  ⟨⟨0xB6, .ldx, .zeroPageY, 4, false, fun b1 _ => .ldxZpY b1⟩,
    (rfl : table 0xB6 = some _), rfl, rfl, fun _ => rfl⟩

theorem ldxAbsY (a : Word) : Statement (.ldxAbsY a) :=
  ⟨⟨0xBE, .ldx, .absoluteY, 4, true, fun b1 b2 => .ldxAbsY (word b2 b1)⟩,
    (rfl : table 0xBE = some _), rfl, rfl, fun _ => congrArg Instr.ldxAbsY (word_hiByte_loByte a)⟩

theorem ldyImm (v : Byte) : Statement (.ldyImm v) :=
  ⟨⟨0xA0, .ldy, .immediate, 2, false, fun b1 _ => .ldyImm b1⟩,
    (rfl : table 0xA0 = some _), rfl, rfl, fun _ => rfl⟩

theorem ldyZp (z : Byte) : Statement (.ldyZp z) :=
  ⟨⟨0xA4, .ldy, .zeroPage, 3, false, fun b1 _ => .ldyZp b1⟩,
    (rfl : table 0xA4 = some _), rfl, rfl, fun _ => rfl⟩

theorem ldyAbs (a : Word) : Statement (.ldyAbs a) :=
  ⟨⟨0xAC, .ldy, .absolute, 4, false, fun b1 b2 => .ldyAbs (word b2 b1)⟩,
    (rfl : table 0xAC = some _), rfl, rfl, fun _ => congrArg Instr.ldyAbs (word_hiByte_loByte a)⟩

theorem ldyZpX (z : Byte) : Statement (.ldyZpX z) :=
  ⟨⟨0xB4, .ldy, .zeroPageX, 4, false, fun b1 _ => .ldyZpX b1⟩,
    (rfl : table 0xB4 = some _), rfl, rfl, fun _ => rfl⟩

theorem ldyAbsX (a : Word) : Statement (.ldyAbsX a) :=
  ⟨⟨0xBC, .ldy, .absoluteX, 4, true, fun b1 b2 => .ldyAbsX (word b2 b1)⟩,
    (rfl : table 0xBC = some _), rfl, rfl, fun _ => congrArg Instr.ldyAbsX (word_hiByte_loByte a)⟩

theorem staIndX (z : Byte) : Statement (.staIndX z) :=
  ⟨⟨0x81, .sta, .indexedIndirectX, 6, false, fun b1 _ => .staIndX b1⟩,
    (rfl : table 0x81 = some _), rfl, rfl, fun _ => rfl⟩

theorem staZp (z : Byte) : Statement (.staZp z) :=
  ⟨⟨0x85, .sta, .zeroPage, 3, false, fun b1 _ => .staZp b1⟩,
    (rfl : table 0x85 = some _), rfl, rfl, fun _ => rfl⟩

theorem staAbs (a : Word) : Statement (.staAbs a) :=
  ⟨⟨0x8D, .sta, .absolute, 4, false, fun b1 b2 => .staAbs (word b2 b1)⟩,
    (rfl : table 0x8D = some _), rfl, rfl, fun _ => congrArg Instr.staAbs (word_hiByte_loByte a)⟩

theorem staIndY (z : Byte) : Statement (.staIndY z) :=
  ⟨⟨0x91, .sta, .indirectIndexedY, 6, false, fun b1 _ => .staIndY b1⟩,
    (rfl : table 0x91 = some _), rfl, rfl, fun _ => rfl⟩

theorem staZpX (z : Byte) : Statement (.staZpX z) :=
  ⟨⟨0x95, .sta, .zeroPageX, 4, false, fun b1 _ => .staZpX b1⟩,
    (rfl : table 0x95 = some _), rfl, rfl, fun _ => rfl⟩

theorem staAbsY (a : Word) : Statement (.staAbsY a) :=
  ⟨⟨0x99, .sta, .absoluteY, 5, false, fun b1 b2 => .staAbsY (word b2 b1)⟩,
    (rfl : table 0x99 = some _), rfl, rfl, fun _ => congrArg Instr.staAbsY (word_hiByte_loByte a)⟩

theorem staAbsX (a : Word) : Statement (.staAbsX a) :=
  ⟨⟨0x9D, .sta, .absoluteX, 5, false, fun b1 b2 => .staAbsX (word b2 b1)⟩,
    (rfl : table 0x9D = some _), rfl, rfl, fun _ => congrArg Instr.staAbsX (word_hiByte_loByte a)⟩

theorem stxZp (z : Byte) : Statement (.stxZp z) :=
  ⟨⟨0x86, .stx, .zeroPage, 3, false, fun b1 _ => .stxZp b1⟩,
    (rfl : table 0x86 = some _), rfl, rfl, fun _ => rfl⟩

theorem stxAbs (a : Word) : Statement (.stxAbs a) :=
  ⟨⟨0x8E, .stx, .absolute, 4, false, fun b1 b2 => .stxAbs (word b2 b1)⟩,
    (rfl : table 0x8E = some _), rfl, rfl, fun _ => congrArg Instr.stxAbs (word_hiByte_loByte a)⟩

theorem stxZpY (z : Byte) : Statement (.stxZpY z) :=
  ⟨⟨0x96, .stx, .zeroPageY, 4, false, fun b1 _ => .stxZpY b1⟩,
    (rfl : table 0x96 = some _), rfl, rfl, fun _ => rfl⟩

theorem styZp (z : Byte) : Statement (.styZp z) :=
  ⟨⟨0x84, .sty, .zeroPage, 3, false, fun b1 _ => .styZp b1⟩,
    (rfl : table 0x84 = some _), rfl, rfl, fun _ => rfl⟩

theorem styAbs (a : Word) : Statement (.styAbs a) :=
  ⟨⟨0x8C, .sty, .absolute, 4, false, fun b1 b2 => .styAbs (word b2 b1)⟩,
    (rfl : table 0x8C = some _), rfl, rfl, fun _ => congrArg Instr.styAbs (word_hiByte_loByte a)⟩

theorem styZpX (z : Byte) : Statement (.styZpX z) :=
  ⟨⟨0x94, .sty, .zeroPageX, 4, false, fun b1 _ => .styZpX b1⟩,
    (rfl : table 0x94 = some _), rfl, rfl, fun _ => rfl⟩

theorem tax : Statement .tax :=
  ⟨⟨0xAA, .tax, .implied, 2, false, fun _ _ => .tax⟩,
    (rfl : table 0xAA = some _), rfl, rfl, fun _ => rfl⟩

theorem tay : Statement .tay :=
  ⟨⟨0xA8, .tay, .implied, 2, false, fun _ _ => .tay⟩,
    (rfl : table 0xA8 = some _), rfl, rfl, fun _ => rfl⟩

theorem txa : Statement .txa :=
  ⟨⟨0x8A, .txa, .implied, 2, false, fun _ _ => .txa⟩,
    (rfl : table 0x8A = some _), rfl, rfl, fun _ => rfl⟩

theorem tya : Statement .tya :=
  ⟨⟨0x98, .tya, .implied, 2, false, fun _ _ => .tya⟩,
    (rfl : table 0x98 = some _), rfl, rfl, fun _ => rfl⟩

theorem tsx : Statement .tsx :=
  ⟨⟨0xBA, .tsx, .implied, 2, false, fun _ _ => .tsx⟩,
    (rfl : table 0xBA = some _), rfl, rfl, fun _ => rfl⟩

theorem txs : Statement .txs :=
  ⟨⟨0x9A, .txs, .implied, 2, false, fun _ _ => .txs⟩,
    (rfl : table 0x9A = some _), rfl, rfl, fun _ => rfl⟩

theorem adcIndX (z : Byte) : Statement (.adcIndX z) :=
  ⟨⟨0x61, .adc, .indexedIndirectX, 6, false, fun b1 _ => .adcIndX b1⟩,
    (rfl : table 0x61 = some _), rfl, rfl, fun _ => rfl⟩

theorem adcZp (z : Byte) : Statement (.adcZp z) :=
  ⟨⟨0x65, .adc, .zeroPage, 3, false, fun b1 _ => .adcZp b1⟩,
    (rfl : table 0x65 = some _), rfl, rfl, fun _ => rfl⟩

theorem adcImm (v : Byte) : Statement (.adcImm v) :=
  ⟨⟨0x69, .adc, .immediate, 2, false, fun b1 _ => .adcImm b1⟩,
    (rfl : table 0x69 = some _), rfl, rfl, fun _ => rfl⟩

theorem adcAbs (a : Word) : Statement (.adcAbs a) :=
  ⟨⟨0x6D, .adc, .absolute, 4, false, fun b1 b2 => .adcAbs (word b2 b1)⟩,
    (rfl : table 0x6D = some _), rfl, rfl, fun _ => congrArg Instr.adcAbs (word_hiByte_loByte a)⟩

theorem adcIndY (z : Byte) : Statement (.adcIndY z) :=
  ⟨⟨0x71, .adc, .indirectIndexedY, 5, true, fun b1 _ => .adcIndY b1⟩,
    (rfl : table 0x71 = some _), rfl, rfl, fun _ => rfl⟩

theorem adcZpX (z : Byte) : Statement (.adcZpX z) :=
  ⟨⟨0x75, .adc, .zeroPageX, 4, false, fun b1 _ => .adcZpX b1⟩,
    (rfl : table 0x75 = some _), rfl, rfl, fun _ => rfl⟩

theorem adcAbsY (a : Word) : Statement (.adcAbsY a) :=
  ⟨⟨0x79, .adc, .absoluteY, 4, true, fun b1 b2 => .adcAbsY (word b2 b1)⟩,
    (rfl : table 0x79 = some _), rfl, rfl, fun _ => congrArg Instr.adcAbsY (word_hiByte_loByte a)⟩

theorem adcAbsX (a : Word) : Statement (.adcAbsX a) :=
  ⟨⟨0x7D, .adc, .absoluteX, 4, true, fun b1 b2 => .adcAbsX (word b2 b1)⟩,
    (rfl : table 0x7D = some _), rfl, rfl, fun _ => congrArg Instr.adcAbsX (word_hiByte_loByte a)⟩

theorem sbcIndX (z : Byte) : Statement (.sbcIndX z) :=
  ⟨⟨0xE1, .sbc, .indexedIndirectX, 6, false, fun b1 _ => .sbcIndX b1⟩,
    (rfl : table 0xE1 = some _), rfl, rfl, fun _ => rfl⟩

theorem sbcZp (z : Byte) : Statement (.sbcZp z) :=
  ⟨⟨0xE5, .sbc, .zeroPage, 3, false, fun b1 _ => .sbcZp b1⟩,
    (rfl : table 0xE5 = some _), rfl, rfl, fun _ => rfl⟩

theorem sbcImm (v : Byte) : Statement (.sbcImm v) :=
  ⟨⟨0xE9, .sbc, .immediate, 2, false, fun b1 _ => .sbcImm b1⟩,
    (rfl : table 0xE9 = some _), rfl, rfl, fun _ => rfl⟩

theorem sbcAbs (a : Word) : Statement (.sbcAbs a) :=
  ⟨⟨0xED, .sbc, .absolute, 4, false, fun b1 b2 => .sbcAbs (word b2 b1)⟩,
    (rfl : table 0xED = some _), rfl, rfl, fun _ => congrArg Instr.sbcAbs (word_hiByte_loByte a)⟩

theorem sbcIndY (z : Byte) : Statement (.sbcIndY z) :=
  ⟨⟨0xF1, .sbc, .indirectIndexedY, 5, true, fun b1 _ => .sbcIndY b1⟩,
    (rfl : table 0xF1 = some _), rfl, rfl, fun _ => rfl⟩

theorem sbcZpX (z : Byte) : Statement (.sbcZpX z) :=
  ⟨⟨0xF5, .sbc, .zeroPageX, 4, false, fun b1 _ => .sbcZpX b1⟩,
    (rfl : table 0xF5 = some _), rfl, rfl, fun _ => rfl⟩

theorem sbcAbsY (a : Word) : Statement (.sbcAbsY a) :=
  ⟨⟨0xF9, .sbc, .absoluteY, 4, true, fun b1 b2 => .sbcAbsY (word b2 b1)⟩,
    (rfl : table 0xF9 = some _), rfl, rfl, fun _ => congrArg Instr.sbcAbsY (word_hiByte_loByte a)⟩

theorem sbcAbsX (a : Word) : Statement (.sbcAbsX a) :=
  ⟨⟨0xFD, .sbc, .absoluteX, 4, true, fun b1 b2 => .sbcAbsX (word b2 b1)⟩,
    (rfl : table 0xFD = some _), rfl, rfl, fun _ => congrArg Instr.sbcAbsX (word_hiByte_loByte a)⟩

theorem andIndX (z : Byte) : Statement (.andIndX z) :=
  ⟨⟨0x21, .and, .indexedIndirectX, 6, false, fun b1 _ => .andIndX b1⟩,
    (rfl : table 0x21 = some _), rfl, rfl, fun _ => rfl⟩

theorem andZp (z : Byte) : Statement (.andZp z) :=
  ⟨⟨0x25, .and, .zeroPage, 3, false, fun b1 _ => .andZp b1⟩,
    (rfl : table 0x25 = some _), rfl, rfl, fun _ => rfl⟩

theorem andImm (v : Byte) : Statement (.andImm v) :=
  ⟨⟨0x29, .and, .immediate, 2, false, fun b1 _ => .andImm b1⟩,
    (rfl : table 0x29 = some _), rfl, rfl, fun _ => rfl⟩

theorem andAbs (a : Word) : Statement (.andAbs a) :=
  ⟨⟨0x2D, .and, .absolute, 4, false, fun b1 b2 => .andAbs (word b2 b1)⟩,
    (rfl : table 0x2D = some _), rfl, rfl, fun _ => congrArg Instr.andAbs (word_hiByte_loByte a)⟩

theorem andIndY (z : Byte) : Statement (.andIndY z) :=
  ⟨⟨0x31, .and, .indirectIndexedY, 5, true, fun b1 _ => .andIndY b1⟩,
    (rfl : table 0x31 = some _), rfl, rfl, fun _ => rfl⟩

theorem andZpX (z : Byte) : Statement (.andZpX z) :=
  ⟨⟨0x35, .and, .zeroPageX, 4, false, fun b1 _ => .andZpX b1⟩,
    (rfl : table 0x35 = some _), rfl, rfl, fun _ => rfl⟩

theorem andAbsY (a : Word) : Statement (.andAbsY a) :=
  ⟨⟨0x39, .and, .absoluteY, 4, true, fun b1 b2 => .andAbsY (word b2 b1)⟩,
    (rfl : table 0x39 = some _), rfl, rfl, fun _ => congrArg Instr.andAbsY (word_hiByte_loByte a)⟩

theorem andAbsX (a : Word) : Statement (.andAbsX a) :=
  ⟨⟨0x3D, .and, .absoluteX, 4, true, fun b1 b2 => .andAbsX (word b2 b1)⟩,
    (rfl : table 0x3D = some _), rfl, rfl, fun _ => congrArg Instr.andAbsX (word_hiByte_loByte a)⟩

theorem oraIndX (z : Byte) : Statement (.oraIndX z) :=
  ⟨⟨0x01, .ora, .indexedIndirectX, 6, false, fun b1 _ => .oraIndX b1⟩,
    (rfl : table 0x01 = some _), rfl, rfl, fun _ => rfl⟩

theorem oraZp (z : Byte) : Statement (.oraZp z) :=
  ⟨⟨0x05, .ora, .zeroPage, 3, false, fun b1 _ => .oraZp b1⟩,
    (rfl : table 0x05 = some _), rfl, rfl, fun _ => rfl⟩

theorem oraImm (v : Byte) : Statement (.oraImm v) :=
  ⟨⟨0x09, .ora, .immediate, 2, false, fun b1 _ => .oraImm b1⟩,
    (rfl : table 0x09 = some _), rfl, rfl, fun _ => rfl⟩

theorem oraAbs (a : Word) : Statement (.oraAbs a) :=
  ⟨⟨0x0D, .ora, .absolute, 4, false, fun b1 b2 => .oraAbs (word b2 b1)⟩,
    (rfl : table 0x0D = some _), rfl, rfl, fun _ => congrArg Instr.oraAbs (word_hiByte_loByte a)⟩

theorem oraIndY (z : Byte) : Statement (.oraIndY z) :=
  ⟨⟨0x11, .ora, .indirectIndexedY, 5, true, fun b1 _ => .oraIndY b1⟩,
    (rfl : table 0x11 = some _), rfl, rfl, fun _ => rfl⟩

theorem oraZpX (z : Byte) : Statement (.oraZpX z) :=
  ⟨⟨0x15, .ora, .zeroPageX, 4, false, fun b1 _ => .oraZpX b1⟩,
    (rfl : table 0x15 = some _), rfl, rfl, fun _ => rfl⟩

theorem oraAbsY (a : Word) : Statement (.oraAbsY a) :=
  ⟨⟨0x19, .ora, .absoluteY, 4, true, fun b1 b2 => .oraAbsY (word b2 b1)⟩,
    (rfl : table 0x19 = some _), rfl, rfl, fun _ => congrArg Instr.oraAbsY (word_hiByte_loByte a)⟩

theorem oraAbsX (a : Word) : Statement (.oraAbsX a) :=
  ⟨⟨0x1D, .ora, .absoluteX, 4, true, fun b1 b2 => .oraAbsX (word b2 b1)⟩,
    (rfl : table 0x1D = some _), rfl, rfl, fun _ => congrArg Instr.oraAbsX (word_hiByte_loByte a)⟩

theorem eorIndX (z : Byte) : Statement (.eorIndX z) :=
  ⟨⟨0x41, .eor, .indexedIndirectX, 6, false, fun b1 _ => .eorIndX b1⟩,
    (rfl : table 0x41 = some _), rfl, rfl, fun _ => rfl⟩

theorem eorZp (z : Byte) : Statement (.eorZp z) :=
  ⟨⟨0x45, .eor, .zeroPage, 3, false, fun b1 _ => .eorZp b1⟩,
    (rfl : table 0x45 = some _), rfl, rfl, fun _ => rfl⟩

theorem eorImm (v : Byte) : Statement (.eorImm v) :=
  ⟨⟨0x49, .eor, .immediate, 2, false, fun b1 _ => .eorImm b1⟩,
    (rfl : table 0x49 = some _), rfl, rfl, fun _ => rfl⟩

theorem eorAbs (a : Word) : Statement (.eorAbs a) :=
  ⟨⟨0x4D, .eor, .absolute, 4, false, fun b1 b2 => .eorAbs (word b2 b1)⟩,
    (rfl : table 0x4D = some _), rfl, rfl, fun _ => congrArg Instr.eorAbs (word_hiByte_loByte a)⟩

theorem eorIndY (z : Byte) : Statement (.eorIndY z) :=
  ⟨⟨0x51, .eor, .indirectIndexedY, 5, true, fun b1 _ => .eorIndY b1⟩,
    (rfl : table 0x51 = some _), rfl, rfl, fun _ => rfl⟩

theorem eorZpX (z : Byte) : Statement (.eorZpX z) :=
  ⟨⟨0x55, .eor, .zeroPageX, 4, false, fun b1 _ => .eorZpX b1⟩,
    (rfl : table 0x55 = some _), rfl, rfl, fun _ => rfl⟩

theorem eorAbsY (a : Word) : Statement (.eorAbsY a) :=
  ⟨⟨0x59, .eor, .absoluteY, 4, true, fun b1 b2 => .eorAbsY (word b2 b1)⟩,
    (rfl : table 0x59 = some _), rfl, rfl, fun _ => congrArg Instr.eorAbsY (word_hiByte_loByte a)⟩

theorem eorAbsX (a : Word) : Statement (.eorAbsX a) :=
  ⟨⟨0x5D, .eor, .absoluteX, 4, true, fun b1 b2 => .eorAbsX (word b2 b1)⟩,
    (rfl : table 0x5D = some _), rfl, rfl, fun _ => congrArg Instr.eorAbsX (word_hiByte_loByte a)⟩

theorem bitZp (z : Byte) : Statement (.bitZp z) :=
  ⟨⟨0x24, .bit, .zeroPage, 3, false, fun b1 _ => .bitZp b1⟩,
    (rfl : table 0x24 = some _), rfl, rfl, fun _ => rfl⟩

theorem bitAbs (a : Word) : Statement (.bitAbs a) :=
  ⟨⟨0x2C, .bit, .absolute, 4, false, fun b1 b2 => .bitAbs (word b2 b1)⟩,
    (rfl : table 0x2C = some _), rfl, rfl, fun _ => congrArg Instr.bitAbs (word_hiByte_loByte a)⟩

theorem cmpIndX (z : Byte) : Statement (.cmpIndX z) :=
  ⟨⟨0xC1, .cmp, .indexedIndirectX, 6, false, fun b1 _ => .cmpIndX b1⟩,
    (rfl : table 0xC1 = some _), rfl, rfl, fun _ => rfl⟩

theorem cmpZp (z : Byte) : Statement (.cmpZp z) :=
  ⟨⟨0xC5, .cmp, .zeroPage, 3, false, fun b1 _ => .cmpZp b1⟩,
    (rfl : table 0xC5 = some _), rfl, rfl, fun _ => rfl⟩

theorem cmpImm (v : Byte) : Statement (.cmpImm v) :=
  ⟨⟨0xC9, .cmp, .immediate, 2, false, fun b1 _ => .cmpImm b1⟩,
    (rfl : table 0xC9 = some _), rfl, rfl, fun _ => rfl⟩

theorem cmpAbs (a : Word) : Statement (.cmpAbs a) :=
  ⟨⟨0xCD, .cmp, .absolute, 4, false, fun b1 b2 => .cmpAbs (word b2 b1)⟩,
    (rfl : table 0xCD = some _), rfl, rfl, fun _ => congrArg Instr.cmpAbs (word_hiByte_loByte a)⟩

theorem cmpIndY (z : Byte) : Statement (.cmpIndY z) :=
  ⟨⟨0xD1, .cmp, .indirectIndexedY, 5, true, fun b1 _ => .cmpIndY b1⟩,
    (rfl : table 0xD1 = some _), rfl, rfl, fun _ => rfl⟩

theorem cmpZpX (z : Byte) : Statement (.cmpZpX z) :=
  ⟨⟨0xD5, .cmp, .zeroPageX, 4, false, fun b1 _ => .cmpZpX b1⟩,
    (rfl : table 0xD5 = some _), rfl, rfl, fun _ => rfl⟩

theorem cmpAbsY (a : Word) : Statement (.cmpAbsY a) :=
  ⟨⟨0xD9, .cmp, .absoluteY, 4, true, fun b1 b2 => .cmpAbsY (word b2 b1)⟩,
    (rfl : table 0xD9 = some _), rfl, rfl, fun _ => congrArg Instr.cmpAbsY (word_hiByte_loByte a)⟩

theorem cmpAbsX (a : Word) : Statement (.cmpAbsX a) :=
  ⟨⟨0xDD, .cmp, .absoluteX, 4, true, fun b1 b2 => .cmpAbsX (word b2 b1)⟩,
    (rfl : table 0xDD = some _), rfl, rfl, fun _ => congrArg Instr.cmpAbsX (word_hiByte_loByte a)⟩

theorem cpxImm (v : Byte) : Statement (.cpxImm v) :=
  ⟨⟨0xE0, .cpx, .immediate, 2, false, fun b1 _ => .cpxImm b1⟩,
    (rfl : table 0xE0 = some _), rfl, rfl, fun _ => rfl⟩

theorem cpxZp (z : Byte) : Statement (.cpxZp z) :=
  ⟨⟨0xE4, .cpx, .zeroPage, 3, false, fun b1 _ => .cpxZp b1⟩,
    (rfl : table 0xE4 = some _), rfl, rfl, fun _ => rfl⟩

theorem cpxAbs (a : Word) : Statement (.cpxAbs a) :=
  ⟨⟨0xEC, .cpx, .absolute, 4, false, fun b1 b2 => .cpxAbs (word b2 b1)⟩,
    (rfl : table 0xEC = some _), rfl, rfl, fun _ => congrArg Instr.cpxAbs (word_hiByte_loByte a)⟩

theorem cpyImm (v : Byte) : Statement (.cpyImm v) :=
  ⟨⟨0xC0, .cpy, .immediate, 2, false, fun b1 _ => .cpyImm b1⟩,
    (rfl : table 0xC0 = some _), rfl, rfl, fun _ => rfl⟩

theorem cpyZp (z : Byte) : Statement (.cpyZp z) :=
  ⟨⟨0xC4, .cpy, .zeroPage, 3, false, fun b1 _ => .cpyZp b1⟩,
    (rfl : table 0xC4 = some _), rfl, rfl, fun _ => rfl⟩

theorem cpyAbs (a : Word) : Statement (.cpyAbs a) :=
  ⟨⟨0xCC, .cpy, .absolute, 4, false, fun b1 b2 => .cpyAbs (word b2 b1)⟩,
    (rfl : table 0xCC = some _), rfl, rfl, fun _ => congrArg Instr.cpyAbs (word_hiByte_loByte a)⟩

theorem incZp (z : Byte) : Statement (.incZp z) :=
  ⟨⟨0xE6, .inc, .zeroPage, 5, false, fun b1 _ => .incZp b1⟩,
    (rfl : table 0xE6 = some _), rfl, rfl, fun _ => rfl⟩

theorem incAbs (a : Word) : Statement (.incAbs a) :=
  ⟨⟨0xEE, .inc, .absolute, 6, false, fun b1 b2 => .incAbs (word b2 b1)⟩,
    (rfl : table 0xEE = some _), rfl, rfl, fun _ => congrArg Instr.incAbs (word_hiByte_loByte a)⟩

theorem incZpX (z : Byte) : Statement (.incZpX z) :=
  ⟨⟨0xF6, .inc, .zeroPageX, 6, false, fun b1 _ => .incZpX b1⟩,
    (rfl : table 0xF6 = some _), rfl, rfl, fun _ => rfl⟩

theorem incAbsX (a : Word) : Statement (.incAbsX a) :=
  ⟨⟨0xFE, .inc, .absoluteX, 7, false, fun b1 b2 => .incAbsX (word b2 b1)⟩,
    (rfl : table 0xFE = some _), rfl, rfl, fun _ => congrArg Instr.incAbsX (word_hiByte_loByte a)⟩

theorem decZp (z : Byte) : Statement (.decZp z) :=
  ⟨⟨0xC6, .dec, .zeroPage, 5, false, fun b1 _ => .decZp b1⟩,
    (rfl : table 0xC6 = some _), rfl, rfl, fun _ => rfl⟩

theorem decAbs (a : Word) : Statement (.decAbs a) :=
  ⟨⟨0xCE, .dec, .absolute, 6, false, fun b1 b2 => .decAbs (word b2 b1)⟩,
    (rfl : table 0xCE = some _), rfl, rfl, fun _ => congrArg Instr.decAbs (word_hiByte_loByte a)⟩

theorem decZpX (z : Byte) : Statement (.decZpX z) :=
  ⟨⟨0xD6, .dec, .zeroPageX, 6, false, fun b1 _ => .decZpX b1⟩,
    (rfl : table 0xD6 = some _), rfl, rfl, fun _ => rfl⟩

theorem decAbsX (a : Word) : Statement (.decAbsX a) :=
  ⟨⟨0xDE, .dec, .absoluteX, 7, false, fun b1 b2 => .decAbsX (word b2 b1)⟩,
    (rfl : table 0xDE = some _), rfl, rfl, fun _ => congrArg Instr.decAbsX (word_hiByte_loByte a)⟩

theorem inx : Statement .inx :=
  ⟨⟨0xE8, .inx, .implied, 2, false, fun _ _ => .inx⟩,
    (rfl : table 0xE8 = some _), rfl, rfl, fun _ => rfl⟩

theorem iny : Statement .iny :=
  ⟨⟨0xC8, .iny, .implied, 2, false, fun _ _ => .iny⟩,
    (rfl : table 0xC8 = some _), rfl, rfl, fun _ => rfl⟩

theorem dex : Statement .dex :=
  ⟨⟨0xCA, .dex, .implied, 2, false, fun _ _ => .dex⟩,
    (rfl : table 0xCA = some _), rfl, rfl, fun _ => rfl⟩

theorem dey : Statement .dey :=
  ⟨⟨0x88, .dey, .implied, 2, false, fun _ _ => .dey⟩,
    (rfl : table 0x88 = some _), rfl, rfl, fun _ => rfl⟩

theorem aslZp (z : Byte) : Statement (.aslZp z) :=
  ⟨⟨0x06, .asl, .zeroPage, 5, false, fun b1 _ => .aslZp b1⟩,
    (rfl : table 0x06 = some _), rfl, rfl, fun _ => rfl⟩

theorem aslAcc : Statement .aslAcc :=
  ⟨⟨0x0A, .asl, .accumulator, 2, false, fun _ _ => .aslAcc⟩,
    (rfl : table 0x0A = some _), rfl, rfl, fun _ => rfl⟩

theorem aslAbs (a : Word) : Statement (.aslAbs a) :=
  ⟨⟨0x0E, .asl, .absolute, 6, false, fun b1 b2 => .aslAbs (word b2 b1)⟩,
    (rfl : table 0x0E = some _), rfl, rfl, fun _ => congrArg Instr.aslAbs (word_hiByte_loByte a)⟩

theorem aslZpX (z : Byte) : Statement (.aslZpX z) :=
  ⟨⟨0x16, .asl, .zeroPageX, 6, false, fun b1 _ => .aslZpX b1⟩,
    (rfl : table 0x16 = some _), rfl, rfl, fun _ => rfl⟩

theorem aslAbsX (a : Word) : Statement (.aslAbsX a) :=
  ⟨⟨0x1E, .asl, .absoluteX, 7, false, fun b1 b2 => .aslAbsX (word b2 b1)⟩,
    (rfl : table 0x1E = some _), rfl, rfl, fun _ => congrArg Instr.aslAbsX (word_hiByte_loByte a)⟩

theorem lsrZp (z : Byte) : Statement (.lsrZp z) :=
  ⟨⟨0x46, .lsr, .zeroPage, 5, false, fun b1 _ => .lsrZp b1⟩,
    (rfl : table 0x46 = some _), rfl, rfl, fun _ => rfl⟩

theorem lsrAcc : Statement .lsrAcc :=
  ⟨⟨0x4A, .lsr, .accumulator, 2, false, fun _ _ => .lsrAcc⟩,
    (rfl : table 0x4A = some _), rfl, rfl, fun _ => rfl⟩

theorem lsrAbs (a : Word) : Statement (.lsrAbs a) :=
  ⟨⟨0x4E, .lsr, .absolute, 6, false, fun b1 b2 => .lsrAbs (word b2 b1)⟩,
    (rfl : table 0x4E = some _), rfl, rfl, fun _ => congrArg Instr.lsrAbs (word_hiByte_loByte a)⟩

theorem lsrZpX (z : Byte) : Statement (.lsrZpX z) :=
  ⟨⟨0x56, .lsr, .zeroPageX, 6, false, fun b1 _ => .lsrZpX b1⟩,
    (rfl : table 0x56 = some _), rfl, rfl, fun _ => rfl⟩

theorem lsrAbsX (a : Word) : Statement (.lsrAbsX a) :=
  ⟨⟨0x5E, .lsr, .absoluteX, 7, false, fun b1 b2 => .lsrAbsX (word b2 b1)⟩,
    (rfl : table 0x5E = some _), rfl, rfl, fun _ => congrArg Instr.lsrAbsX (word_hiByte_loByte a)⟩

theorem rolZp (z : Byte) : Statement (.rolZp z) :=
  ⟨⟨0x26, .rol, .zeroPage, 5, false, fun b1 _ => .rolZp b1⟩,
    (rfl : table 0x26 = some _), rfl, rfl, fun _ => rfl⟩

theorem rolAcc : Statement .rolAcc :=
  ⟨⟨0x2A, .rol, .accumulator, 2, false, fun _ _ => .rolAcc⟩,
    (rfl : table 0x2A = some _), rfl, rfl, fun _ => rfl⟩

theorem rolAbs (a : Word) : Statement (.rolAbs a) :=
  ⟨⟨0x2E, .rol, .absolute, 6, false, fun b1 b2 => .rolAbs (word b2 b1)⟩,
    (rfl : table 0x2E = some _), rfl, rfl, fun _ => congrArg Instr.rolAbs (word_hiByte_loByte a)⟩

theorem rolZpX (z : Byte) : Statement (.rolZpX z) :=
  ⟨⟨0x36, .rol, .zeroPageX, 6, false, fun b1 _ => .rolZpX b1⟩,
    (rfl : table 0x36 = some _), rfl, rfl, fun _ => rfl⟩

theorem rolAbsX (a : Word) : Statement (.rolAbsX a) :=
  ⟨⟨0x3E, .rol, .absoluteX, 7, false, fun b1 b2 => .rolAbsX (word b2 b1)⟩,
    (rfl : table 0x3E = some _), rfl, rfl, fun _ => congrArg Instr.rolAbsX (word_hiByte_loByte a)⟩

theorem rorZp (z : Byte) : Statement (.rorZp z) :=
  ⟨⟨0x66, .ror, .zeroPage, 5, false, fun b1 _ => .rorZp b1⟩,
    (rfl : table 0x66 = some _), rfl, rfl, fun _ => rfl⟩

theorem rorAcc : Statement .rorAcc :=
  ⟨⟨0x6A, .ror, .accumulator, 2, false, fun _ _ => .rorAcc⟩,
    (rfl : table 0x6A = some _), rfl, rfl, fun _ => rfl⟩

theorem rorAbs (a : Word) : Statement (.rorAbs a) :=
  ⟨⟨0x6E, .ror, .absolute, 6, false, fun b1 b2 => .rorAbs (word b2 b1)⟩,
    (rfl : table 0x6E = some _), rfl, rfl, fun _ => congrArg Instr.rorAbs (word_hiByte_loByte a)⟩

theorem rorZpX (z : Byte) : Statement (.rorZpX z) :=
  ⟨⟨0x76, .ror, .zeroPageX, 6, false, fun b1 _ => .rorZpX b1⟩,
    (rfl : table 0x76 = some _), rfl, rfl, fun _ => rfl⟩

theorem rorAbsX (a : Word) : Statement (.rorAbsX a) :=
  ⟨⟨0x7E, .ror, .absoluteX, 7, false, fun b1 b2 => .rorAbsX (word b2 b1)⟩,
    (rfl : table 0x7E = some _), rfl, rfl, fun _ => congrArg Instr.rorAbsX (word_hiByte_loByte a)⟩

theorem bpl (off : Int) : Statement (.bpl off) :=
  ⟨⟨0x10, .bpl, .relative, 2, false, fun b1 _ => .bpl (operandOffset b1)⟩,
    (rfl : table 0x10 = some _), rfl, rfl, fun h => congrArg Instr.bpl (operandOffset_ofInt h)⟩

theorem bmi (off : Int) : Statement (.bmi off) :=
  ⟨⟨0x30, .bmi, .relative, 2, false, fun b1 _ => .bmi (operandOffset b1)⟩,
    (rfl : table 0x30 = some _), rfl, rfl, fun h => congrArg Instr.bmi (operandOffset_ofInt h)⟩

theorem bvc (off : Int) : Statement (.bvc off) :=
  ⟨⟨0x50, .bvc, .relative, 2, false, fun b1 _ => .bvc (operandOffset b1)⟩,
    (rfl : table 0x50 = some _), rfl, rfl, fun h => congrArg Instr.bvc (operandOffset_ofInt h)⟩

theorem bvs (off : Int) : Statement (.bvs off) :=
  ⟨⟨0x70, .bvs, .relative, 2, false, fun b1 _ => .bvs (operandOffset b1)⟩,
    (rfl : table 0x70 = some _), rfl, rfl, fun h => congrArg Instr.bvs (operandOffset_ofInt h)⟩

theorem bcc (off : Int) : Statement (.bcc off) :=
  ⟨⟨0x90, .bcc, .relative, 2, false, fun b1 _ => .bcc (operandOffset b1)⟩,
    (rfl : table 0x90 = some _), rfl, rfl, fun h => congrArg Instr.bcc (operandOffset_ofInt h)⟩

theorem bcs (off : Int) : Statement (.bcs off) :=
  ⟨⟨0xB0, .bcs, .relative, 2, false, fun b1 _ => .bcs (operandOffset b1)⟩,
    (rfl : table 0xB0 = some _), rfl, rfl, fun h => congrArg Instr.bcs (operandOffset_ofInt h)⟩

theorem bne (off : Int) : Statement (.bne off) :=
  ⟨⟨0xD0, .bne, .relative, 2, false, fun b1 _ => .bne (operandOffset b1)⟩,
    (rfl : table 0xD0 = some _), rfl, rfl, fun h => congrArg Instr.bne (operandOffset_ofInt h)⟩

theorem beq (off : Int) : Statement (.beq off) :=
  ⟨⟨0xF0, .beq, .relative, 2, false, fun b1 _ => .beq (operandOffset b1)⟩,
    (rfl : table 0xF0 = some _), rfl, rfl, fun h => congrArg Instr.beq (operandOffset_ofInt h)⟩

theorem jmpAbs (a : Word) : Statement (.jmpAbs a) :=
  ⟨⟨0x4C, .jmp, .absolute, 3, false, fun b1 b2 => .jmpAbs (word b2 b1)⟩,
    (rfl : table 0x4C = some _), rfl, rfl, fun _ => congrArg Instr.jmpAbs (word_hiByte_loByte a)⟩

theorem jmpInd (a : Word) : Statement (.jmpInd a) :=
  ⟨⟨0x6C, .jmp, .indirect, 5, false, fun b1 b2 => .jmpInd (word b2 b1)⟩,
    (rfl : table 0x6C = some _), rfl, rfl, fun _ => congrArg Instr.jmpInd (word_hiByte_loByte a)⟩

theorem jsr (a : Word) : Statement (.jsr a) :=
  ⟨⟨0x20, .jsr, .absolute, 6, false, fun b1 b2 => .jsr (word b2 b1)⟩,
    (rfl : table 0x20 = some _), rfl, rfl, fun _ => congrArg Instr.jsr (word_hiByte_loByte a)⟩

theorem rts : Statement .rts :=
  ⟨⟨0x60, .rts, .implied, 6, false, fun _ _ => .rts⟩,
    (rfl : table 0x60 = some _), rfl, rfl, fun _ => rfl⟩

theorem pha : Statement .pha :=
  ⟨⟨0x48, .pha, .implied, 3, false, fun _ _ => .pha⟩,
    (rfl : table 0x48 = some _), rfl, rfl, fun _ => rfl⟩

theorem php : Statement .php :=
  ⟨⟨0x08, .php, .implied, 3, false, fun _ _ => .php⟩,
    (rfl : table 0x08 = some _), rfl, rfl, fun _ => rfl⟩

theorem pla : Statement .pla :=
  ⟨⟨0x68, .pla, .implied, 4, false, fun _ _ => .pla⟩,
    (rfl : table 0x68 = some _), rfl, rfl, fun _ => rfl⟩

theorem plp : Statement .plp :=
  ⟨⟨0x28, .plp, .implied, 4, false, fun _ _ => .plp⟩,
    (rfl : table 0x28 = some _), rfl, rfl, fun _ => rfl⟩

theorem clc : Statement .clc :=
  ⟨⟨0x18, .clc, .implied, 2, false, fun _ _ => .clc⟩,
    (rfl : table 0x18 = some _), rfl, rfl, fun _ => rfl⟩

theorem cld : Statement .cld :=
  ⟨⟨0xD8, .cld, .implied, 2, false, fun _ _ => .cld⟩,
    (rfl : table 0xD8 = some _), rfl, rfl, fun _ => rfl⟩

theorem cli : Statement .cli :=
  ⟨⟨0x58, .cli, .implied, 2, false, fun _ _ => .cli⟩,
    (rfl : table 0x58 = some _), rfl, rfl, fun _ => rfl⟩

theorem clv : Statement .clv :=
  ⟨⟨0xB8, .clv, .implied, 2, false, fun _ _ => .clv⟩,
    (rfl : table 0xB8 = some _), rfl, rfl, fun _ => rfl⟩

theorem sec : Statement .sec :=
  ⟨⟨0x38, .sec, .implied, 2, false, fun _ _ => .sec⟩,
    (rfl : table 0x38 = some _), rfl, rfl, fun _ => rfl⟩

theorem sed : Statement .sed :=
  ⟨⟨0xF8, .sed, .implied, 2, false, fun _ _ => .sed⟩,
    (rfl : table 0xF8 = some _), rfl, rfl, fun _ => rfl⟩

theorem sei : Statement .sei :=
  ⟨⟨0x78, .sei, .implied, 2, false, fun _ _ => .sei⟩,
    (rfl : table 0x78 = some _), rfl, rfl, fun _ => rfl⟩

theorem nop : Statement .nop :=
  ⟨⟨0xEA, .nop, .implied, 2, false, fun _ _ => .nop⟩,
    (rfl : table 0xEA = some _), rfl, rfl, fun _ => rfl⟩

theorem brk : Statement .brk :=
  ⟨⟨0x00, .brk, .implied, 7, false, fun _ _ => .brk⟩,
    (rfl : table 0x00 = some _), rfl, rfl, fun _ => rfl⟩

theorem rti : Statement .rti :=
  ⟨⟨0x40, .rti, .implied, 6, false, fun _ _ => .rti⟩,
    (rfl : table 0x40 = some _), rfl, rfl, fun _ => rfl⟩

end Laws.TableAgrees

/-- The lemma of every constructor, for any instruction. -/
theorem tableAgrees (i : Instr) : Laws.TableAgrees.Statement i :=
  match i with
  | .ldaIndX z => Laws.TableAgrees.ldaIndX z
  | .ldaZp z => Laws.TableAgrees.ldaZp z
  | .ldaImm v => Laws.TableAgrees.ldaImm v
  | .ldaAbs a => Laws.TableAgrees.ldaAbs a
  | .ldaIndY z => Laws.TableAgrees.ldaIndY z
  | .ldaZpX z => Laws.TableAgrees.ldaZpX z
  | .ldaAbsY a => Laws.TableAgrees.ldaAbsY a
  | .ldaAbsX a => Laws.TableAgrees.ldaAbsX a
  | .ldxImm v => Laws.TableAgrees.ldxImm v
  | .ldxZp z => Laws.TableAgrees.ldxZp z
  | .ldxAbs a => Laws.TableAgrees.ldxAbs a
  | .ldxZpY z => Laws.TableAgrees.ldxZpY z
  | .ldxAbsY a => Laws.TableAgrees.ldxAbsY a
  | .ldyImm v => Laws.TableAgrees.ldyImm v
  | .ldyZp z => Laws.TableAgrees.ldyZp z
  | .ldyAbs a => Laws.TableAgrees.ldyAbs a
  | .ldyZpX z => Laws.TableAgrees.ldyZpX z
  | .ldyAbsX a => Laws.TableAgrees.ldyAbsX a
  | .staIndX z => Laws.TableAgrees.staIndX z
  | .staZp z => Laws.TableAgrees.staZp z
  | .staAbs a => Laws.TableAgrees.staAbs a
  | .staIndY z => Laws.TableAgrees.staIndY z
  | .staZpX z => Laws.TableAgrees.staZpX z
  | .staAbsY a => Laws.TableAgrees.staAbsY a
  | .staAbsX a => Laws.TableAgrees.staAbsX a
  | .stxZp z => Laws.TableAgrees.stxZp z
  | .stxAbs a => Laws.TableAgrees.stxAbs a
  | .stxZpY z => Laws.TableAgrees.stxZpY z
  | .styZp z => Laws.TableAgrees.styZp z
  | .styAbs a => Laws.TableAgrees.styAbs a
  | .styZpX z => Laws.TableAgrees.styZpX z
  | .tax => Laws.TableAgrees.tax
  | .tay => Laws.TableAgrees.tay
  | .txa => Laws.TableAgrees.txa
  | .tya => Laws.TableAgrees.tya
  | .tsx => Laws.TableAgrees.tsx
  | .txs => Laws.TableAgrees.txs
  | .adcIndX z => Laws.TableAgrees.adcIndX z
  | .adcZp z => Laws.TableAgrees.adcZp z
  | .adcImm v => Laws.TableAgrees.adcImm v
  | .adcAbs a => Laws.TableAgrees.adcAbs a
  | .adcIndY z => Laws.TableAgrees.adcIndY z
  | .adcZpX z => Laws.TableAgrees.adcZpX z
  | .adcAbsY a => Laws.TableAgrees.adcAbsY a
  | .adcAbsX a => Laws.TableAgrees.adcAbsX a
  | .sbcIndX z => Laws.TableAgrees.sbcIndX z
  | .sbcZp z => Laws.TableAgrees.sbcZp z
  | .sbcImm v => Laws.TableAgrees.sbcImm v
  | .sbcAbs a => Laws.TableAgrees.sbcAbs a
  | .sbcIndY z => Laws.TableAgrees.sbcIndY z
  | .sbcZpX z => Laws.TableAgrees.sbcZpX z
  | .sbcAbsY a => Laws.TableAgrees.sbcAbsY a
  | .sbcAbsX a => Laws.TableAgrees.sbcAbsX a
  | .andIndX z => Laws.TableAgrees.andIndX z
  | .andZp z => Laws.TableAgrees.andZp z
  | .andImm v => Laws.TableAgrees.andImm v
  | .andAbs a => Laws.TableAgrees.andAbs a
  | .andIndY z => Laws.TableAgrees.andIndY z
  | .andZpX z => Laws.TableAgrees.andZpX z
  | .andAbsY a => Laws.TableAgrees.andAbsY a
  | .andAbsX a => Laws.TableAgrees.andAbsX a
  | .oraIndX z => Laws.TableAgrees.oraIndX z
  | .oraZp z => Laws.TableAgrees.oraZp z
  | .oraImm v => Laws.TableAgrees.oraImm v
  | .oraAbs a => Laws.TableAgrees.oraAbs a
  | .oraIndY z => Laws.TableAgrees.oraIndY z
  | .oraZpX z => Laws.TableAgrees.oraZpX z
  | .oraAbsY a => Laws.TableAgrees.oraAbsY a
  | .oraAbsX a => Laws.TableAgrees.oraAbsX a
  | .eorIndX z => Laws.TableAgrees.eorIndX z
  | .eorZp z => Laws.TableAgrees.eorZp z
  | .eorImm v => Laws.TableAgrees.eorImm v
  | .eorAbs a => Laws.TableAgrees.eorAbs a
  | .eorIndY z => Laws.TableAgrees.eorIndY z
  | .eorZpX z => Laws.TableAgrees.eorZpX z
  | .eorAbsY a => Laws.TableAgrees.eorAbsY a
  | .eorAbsX a => Laws.TableAgrees.eorAbsX a
  | .bitZp z => Laws.TableAgrees.bitZp z
  | .bitAbs a => Laws.TableAgrees.bitAbs a
  | .cmpIndX z => Laws.TableAgrees.cmpIndX z
  | .cmpZp z => Laws.TableAgrees.cmpZp z
  | .cmpImm v => Laws.TableAgrees.cmpImm v
  | .cmpAbs a => Laws.TableAgrees.cmpAbs a
  | .cmpIndY z => Laws.TableAgrees.cmpIndY z
  | .cmpZpX z => Laws.TableAgrees.cmpZpX z
  | .cmpAbsY a => Laws.TableAgrees.cmpAbsY a
  | .cmpAbsX a => Laws.TableAgrees.cmpAbsX a
  | .cpxImm v => Laws.TableAgrees.cpxImm v
  | .cpxZp z => Laws.TableAgrees.cpxZp z
  | .cpxAbs a => Laws.TableAgrees.cpxAbs a
  | .cpyImm v => Laws.TableAgrees.cpyImm v
  | .cpyZp z => Laws.TableAgrees.cpyZp z
  | .cpyAbs a => Laws.TableAgrees.cpyAbs a
  | .incZp z => Laws.TableAgrees.incZp z
  | .incAbs a => Laws.TableAgrees.incAbs a
  | .incZpX z => Laws.TableAgrees.incZpX z
  | .incAbsX a => Laws.TableAgrees.incAbsX a
  | .decZp z => Laws.TableAgrees.decZp z
  | .decAbs a => Laws.TableAgrees.decAbs a
  | .decZpX z => Laws.TableAgrees.decZpX z
  | .decAbsX a => Laws.TableAgrees.decAbsX a
  | .inx => Laws.TableAgrees.inx
  | .iny => Laws.TableAgrees.iny
  | .dex => Laws.TableAgrees.dex
  | .dey => Laws.TableAgrees.dey
  | .aslZp z => Laws.TableAgrees.aslZp z
  | .aslAcc => Laws.TableAgrees.aslAcc
  | .aslAbs a => Laws.TableAgrees.aslAbs a
  | .aslZpX z => Laws.TableAgrees.aslZpX z
  | .aslAbsX a => Laws.TableAgrees.aslAbsX a
  | .lsrZp z => Laws.TableAgrees.lsrZp z
  | .lsrAcc => Laws.TableAgrees.lsrAcc
  | .lsrAbs a => Laws.TableAgrees.lsrAbs a
  | .lsrZpX z => Laws.TableAgrees.lsrZpX z
  | .lsrAbsX a => Laws.TableAgrees.lsrAbsX a
  | .rolZp z => Laws.TableAgrees.rolZp z
  | .rolAcc => Laws.TableAgrees.rolAcc
  | .rolAbs a => Laws.TableAgrees.rolAbs a
  | .rolZpX z => Laws.TableAgrees.rolZpX z
  | .rolAbsX a => Laws.TableAgrees.rolAbsX a
  | .rorZp z => Laws.TableAgrees.rorZp z
  | .rorAcc => Laws.TableAgrees.rorAcc
  | .rorAbs a => Laws.TableAgrees.rorAbs a
  | .rorZpX z => Laws.TableAgrees.rorZpX z
  | .rorAbsX a => Laws.TableAgrees.rorAbsX a
  | .bpl off => Laws.TableAgrees.bpl off
  | .bmi off => Laws.TableAgrees.bmi off
  | .bvc off => Laws.TableAgrees.bvc off
  | .bvs off => Laws.TableAgrees.bvs off
  | .bcc off => Laws.TableAgrees.bcc off
  | .bcs off => Laws.TableAgrees.bcs off
  | .bne off => Laws.TableAgrees.bne off
  | .beq off => Laws.TableAgrees.beq off
  | .jmpAbs a => Laws.TableAgrees.jmpAbs a
  | .jmpInd a => Laws.TableAgrees.jmpInd a
  | .jsr a => Laws.TableAgrees.jsr a
  | .rts => Laws.TableAgrees.rts
  | .pha => Laws.TableAgrees.pha
  | .php => Laws.TableAgrees.php
  | .pla => Laws.TableAgrees.pla
  | .plp => Laws.TableAgrees.plp
  | .clc => Laws.TableAgrees.clc
  | .cld => Laws.TableAgrees.cld
  | .cli => Laws.TableAgrees.cli
  | .clv => Laws.TableAgrees.clv
  | .sec => Laws.TableAgrees.sec
  | .sed => Laws.TableAgrees.sed
  | .sei => Laws.TableAgrees.sei
  | .nop => Laws.TableAgrees.nop
  | .brk => Laws.TableAgrees.brk
  | .rti => Laws.TableAgrees.rti

end Sys2Proof
end

