-- ==== Sys2Proof/Laws/Ppu.lean ====
section
/-! SUPPORT. What a PPU cycle can do, said once: it touches nothing outside the PPU but the NMI latch, and no PPU
register or memory but `v`; the position of the PPU advances by one in the frame. -/

namespace Sys2Proof.Machine

@[simp] theorem pixelEvent_a (s : State) : (pixelEvent s).a = s.a := by
  simp only [pixelEvent]; split <;> rfl
@[simp] theorem pixelEvent_x (s : State) : (pixelEvent s).x = s.x := by
  simp only [pixelEvent]; split <;> rfl
@[simp] theorem pixelEvent_y (s : State) : (pixelEvent s).y = s.y := by
  simp only [pixelEvent]; split <;> rfl
@[simp] theorem pixelEvent_sp (s : State) : (pixelEvent s).sp = s.sp := by
  simp only [pixelEvent]; split <;> rfl
@[simp] theorem pixelEvent_pc (s : State) : (pixelEvent s).pc = s.pc := by
  simp only [pixelEvent]; split <;> rfl
@[simp] theorem pixelEvent_p (s : State) : (pixelEvent s).p = s.p := by
  simp only [pixelEvent]; split <;> rfl
@[simp] theorem pixelEvent_pageCrossed (s : State) : (pixelEvent s).pageCrossed = s.pageCrossed := by
  simp only [pixelEvent]; split <;> rfl
@[simp] theorem pixelEvent_branchTaken (s : State) : (pixelEvent s).branchTaken = s.branchTaken := by
  simp only [pixelEvent]; split <;> rfl
@[simp] theorem pixelEvent_dmaStall (s : State) : (pixelEvent s).dmaStall = s.dmaStall := by
  simp only [pixelEvent]; split <;> rfl
@[simp] theorem pixelEvent_fault (s : State) : (pixelEvent s).fault = s.fault := by
  simp only [pixelEvent]; split <;> rfl
@[simp] theorem pixelEvent_totalCycles (s : State) : (pixelEvent s).totalCycles = s.totalCycles := by
  simp only [pixelEvent]; split <;> rfl
@[simp] theorem pixelEvent_ram (s : State) : (pixelEvent s).ram = s.ram := by
  simp only [pixelEvent]; split <;> rfl
@[simp] theorem pixelEvent_cart (s : State) : (pixelEvent s).cart = s.cart := by
  simp only [pixelEvent]; split <;> rfl
@[simp] theorem pixelEvent_pads (s : State) : (pixelEvent s).pads = s.pads := by
  simp only [pixelEvent]; split <;> rfl
@[simp] theorem pixelEvent_oamDmaStall (s : State) : (pixelEvent s).oamDmaStall = s.oamDmaStall := by
  simp only [pixelEvent]; split <;> rfl
@[simp] theorem pixelEvent_irqIn (s : State) : (pixelEvent s).irqIn = s.irqIn := by
  simp only [pixelEvent]; split <;> rfl
@[simp] theorem pixelEvent_stepNo (s : State) : (pixelEvent s).stepNo = s.stepNo := by
  simp only [pixelEvent]; split <;> rfl
@[simp] theorem pixelEvent_draws (s : State) : (pixelEvent s).draws = s.draws := by
  simp only [pixelEvent]; split <;> rfl
@[simp] theorem pixelEvent_nmiPending (s : State) : (pixelEvent s).nmiPending = s.nmiPending := by
  simp only [pixelEvent]; split <;> rfl
@[simp] theorem pixelEvent_ppu_ctrl (s : State) : (pixelEvent s).ppu.ctrl = s.ppu.ctrl := by
  simp only [pixelEvent]; split <;> rfl
@[simp] theorem pixelEvent_ppu_mask (s : State) : (pixelEvent s).ppu.mask = s.ppu.mask := by
  simp only [pixelEvent]; split <;> rfl
@[simp] theorem pixelEvent_ppu_vblank (s : State) : (pixelEvent s).ppu.vblank = s.ppu.vblank := by
  simp only [pixelEvent]; split <;> rfl
@[simp] theorem pixelEvent_ppu_spriteOverflow (s : State) : (pixelEvent s).ppu.spriteOverflow = s.ppu.spriteOverflow := by
  simp only [pixelEvent]; split <;> rfl
@[simp] theorem pixelEvent_ppu_oamAddr (s : State) : (pixelEvent s).ppu.oamAddr = s.ppu.oamAddr := by
  simp only [pixelEvent]; split <;> rfl
@[simp] theorem pixelEvent_ppu_oam (s : State) : (pixelEvent s).ppu.oam = s.ppu.oam := by
  simp only [pixelEvent]; split <;> rfl
@[simp] theorem pixelEvent_ppu_secondary (s : State) : (pixelEvent s).ppu.secondary = s.ppu.secondary := by
  simp only [pixelEvent]; split <;> rfl
@[simp] theorem pixelEvent_ppu_v (s : State) : (pixelEvent s).ppu.v = s.ppu.v := by
  simp only [pixelEvent]; split <;> rfl
@[simp] theorem pixelEvent_ppu_t (s : State) : (pixelEvent s).ppu.t = s.ppu.t := by
  simp only [pixelEvent]; split <;> rfl
@[simp] theorem pixelEvent_ppu_fineX (s : State) : (pixelEvent s).ppu.fineX = s.ppu.fineX := by
  simp only [pixelEvent]; split <;> rfl
@[simp] theorem pixelEvent_ppu_w (s : State) : (pixelEvent s).ppu.w = s.ppu.w := by
  simp only [pixelEvent]; split <;> rfl
@[simp] theorem pixelEvent_ppu_readBuffer (s : State) : (pixelEvent s).ppu.readBuffer = s.ppu.readBuffer := by
  simp only [pixelEvent]; split <;> rfl
@[simp] theorem pixelEvent_ppu_ob (s : State) : (pixelEvent s).ppu.ob = s.ppu.ob := by
  simp only [pixelEvent]; split <;> rfl
@[simp] theorem pixelEvent_ppu_obTimers (s : State) : (pixelEvent s).ppu.obTimers = s.ppu.obTimers := by
  simp only [pixelEvent]; split <;> rfl
@[simp] theorem pixelEvent_ppu_vram (s : State) : (pixelEvent s).ppu.vram = s.ppu.vram := by
  simp only [pixelEvent]; split <;> rfl
@[simp] theorem pixelEvent_ppu_palette (s : State) : (pixelEvent s).ppu.palette = s.ppu.palette := by
  simp only [pixelEvent]; split <;> rfl
@[simp] theorem pixelEvent_ppu_scanline (s : State) : (pixelEvent s).ppu.scanline = s.ppu.scanline := by
  simp only [pixelEvent]; split <;> rfl
@[simp] theorem pixelEvent_ppu_cycle (s : State) : (pixelEvent s).ppu.cycle = s.ppu.cycle := by
  simp only [pixelEvent]; split <;> rfl
@[simp] theorem pixelEvent_ppu_dmaActive (s : State) : (pixelEvent s).ppu.dmaActive = s.ppu.dmaActive := by
  simp only [pixelEvent]; split <;> rfl
@[simp] theorem pixelEvent_ppu_nmiOut (s : State) : (pixelEvent s).ppu.nmiOut = s.ppu.nmiOut := by
  simp only [pixelEvent]; split <;> rfl

@[simp] theorem vblankStartEvent_a (s : State) : (vblankStartEvent s).a = s.a := by
  simp only [vblankStartEvent]; split <;> rfl
@[simp] theorem vblankStartEvent_x (s : State) : (vblankStartEvent s).x = s.x := by
  simp only [vblankStartEvent]; split <;> rfl
@[simp] theorem vblankStartEvent_y (s : State) : (vblankStartEvent s).y = s.y := by
  simp only [vblankStartEvent]; split <;> rfl
@[simp] theorem vblankStartEvent_sp (s : State) : (vblankStartEvent s).sp = s.sp := by
  simp only [vblankStartEvent]; split <;> rfl
@[simp] theorem vblankStartEvent_pc (s : State) : (vblankStartEvent s).pc = s.pc := by
  simp only [vblankStartEvent]; split <;> rfl
@[simp] theorem vblankStartEvent_p (s : State) : (vblankStartEvent s).p = s.p := by
  simp only [vblankStartEvent]; split <;> rfl
@[simp] theorem vblankStartEvent_pageCrossed (s : State) : (vblankStartEvent s).pageCrossed = s.pageCrossed := by
  simp only [vblankStartEvent]; split <;> rfl
@[simp] theorem vblankStartEvent_branchTaken (s : State) : (vblankStartEvent s).branchTaken = s.branchTaken := by
  simp only [vblankStartEvent]; split <;> rfl
@[simp] theorem vblankStartEvent_dmaStall (s : State) : (vblankStartEvent s).dmaStall = s.dmaStall := by
  simp only [vblankStartEvent]; split <;> rfl
@[simp] theorem vblankStartEvent_fault (s : State) : (vblankStartEvent s).fault = s.fault := by
  simp only [vblankStartEvent]; split <;> rfl
@[simp] theorem vblankStartEvent_totalCycles (s : State) : (vblankStartEvent s).totalCycles = s.totalCycles := by
  simp only [vblankStartEvent]; split <;> rfl
@[simp] theorem vblankStartEvent_ram (s : State) : (vblankStartEvent s).ram = s.ram := by
  simp only [vblankStartEvent]; split <;> rfl
@[simp] theorem vblankStartEvent_cart (s : State) : (vblankStartEvent s).cart = s.cart := by
  simp only [vblankStartEvent]; split <;> rfl
@[simp] theorem vblankStartEvent_pads (s : State) : (vblankStartEvent s).pads = s.pads := by
  simp only [vblankStartEvent]; split <;> rfl
@[simp] theorem vblankStartEvent_oamDmaStall (s : State) : (vblankStartEvent s).oamDmaStall = s.oamDmaStall := by
  simp only [vblankStartEvent]; split <;> rfl
@[simp] theorem vblankStartEvent_irqIn (s : State) : (vblankStartEvent s).irqIn = s.irqIn := by
  simp only [vblankStartEvent]; split <;> rfl
@[simp] theorem vblankStartEvent_stepNo (s : State) : (vblankStartEvent s).stepNo = s.stepNo := by
  simp only [vblankStartEvent]; split <;> rfl
@[simp] theorem vblankStartEvent_draws (s : State) : (vblankStartEvent s).draws = s.draws := by
  simp only [vblankStartEvent]; split <;> rfl
@[simp] theorem vblankStartEvent_ppu_ctrl (s : State) : (vblankStartEvent s).ppu.ctrl = s.ppu.ctrl := by
  simp only [vblankStartEvent]; split <;> rfl
@[simp] theorem vblankStartEvent_ppu_mask (s : State) : (vblankStartEvent s).ppu.mask = s.ppu.mask := by
  simp only [vblankStartEvent]; split <;> rfl
@[simp] theorem vblankStartEvent_ppu_sprite0Hit (s : State) : (vblankStartEvent s).ppu.sprite0Hit = s.ppu.sprite0Hit := by
  simp only [vblankStartEvent]; split <;> rfl
@[simp] theorem vblankStartEvent_ppu_spriteOverflow (s : State) : (vblankStartEvent s).ppu.spriteOverflow = s.ppu.spriteOverflow := by
  simp only [vblankStartEvent]; split <;> rfl
@[simp] theorem vblankStartEvent_ppu_oamAddr (s : State) : (vblankStartEvent s).ppu.oamAddr = s.ppu.oamAddr := by
  simp only [vblankStartEvent]; split <;> rfl
@[simp] theorem vblankStartEvent_ppu_oam (s : State) : (vblankStartEvent s).ppu.oam = s.ppu.oam := by
  simp only [vblankStartEvent]; split <;> rfl
@[simp] theorem vblankStartEvent_ppu_secondary (s : State) : (vblankStartEvent s).ppu.secondary = s.ppu.secondary := by
  simp only [vblankStartEvent]; split <;> rfl
@[simp] theorem vblankStartEvent_ppu_v (s : State) : (vblankStartEvent s).ppu.v = s.ppu.v := by
  simp only [vblankStartEvent]; split <;> rfl
@[simp] theorem vblankStartEvent_ppu_t (s : State) : (vblankStartEvent s).ppu.t = s.ppu.t := by
  simp only [vblankStartEvent]; split <;> rfl
@[simp] theorem vblankStartEvent_ppu_fineX (s : State) : (vblankStartEvent s).ppu.fineX = s.ppu.fineX := by
  simp only [vblankStartEvent]; split <;> rfl
@[simp] theorem vblankStartEvent_ppu_w (s : State) : (vblankStartEvent s).ppu.w = s.ppu.w := by
  simp only [vblankStartEvent]; split <;> rfl
@[simp] theorem vblankStartEvent_ppu_readBuffer (s : State) : (vblankStartEvent s).ppu.readBuffer = s.ppu.readBuffer := by
  simp only [vblankStartEvent]; split <;> rfl
@[simp] theorem vblankStartEvent_ppu_ob (s : State) : (vblankStartEvent s).ppu.ob = s.ppu.ob := by
  simp only [vblankStartEvent]; split <;> rfl
@[simp] theorem vblankStartEvent_ppu_obTimers (s : State) : (vblankStartEvent s).ppu.obTimers = s.ppu.obTimers := by
  simp only [vblankStartEvent]; split <;> rfl
@[simp] theorem vblankStartEvent_ppu_vram (s : State) : (vblankStartEvent s).ppu.vram = s.ppu.vram := by
  simp only [vblankStartEvent]; split <;> rfl
@[simp] theorem vblankStartEvent_ppu_palette (s : State) : (vblankStartEvent s).ppu.palette = s.ppu.palette := by
  simp only [vblankStartEvent]; split <;> rfl
@[simp] theorem vblankStartEvent_ppu_scanline (s : State) : (vblankStartEvent s).ppu.scanline = s.ppu.scanline := by
  simp only [vblankStartEvent]; split <;> rfl
@[simp] theorem vblankStartEvent_ppu_cycle (s : State) : (vblankStartEvent s).ppu.cycle = s.ppu.cycle := by
  simp only [vblankStartEvent]; split <;> rfl
@[simp] theorem vblankStartEvent_ppu_dmaActive (s : State) : (vblankStartEvent s).ppu.dmaActive = s.ppu.dmaActive := by
  simp only [vblankStartEvent]; split <;> rfl
@[simp] theorem vblankStartEvent_ppu_frame (s : State) : (vblankStartEvent s).ppu.frame = s.ppu.frame := by
  simp only [vblankStartEvent]; split <;> rfl

@[simp] theorem vblankEndEvent_a (s : State) : (vblankEndEvent s).a = s.a := by
  simp only [vblankEndEvent]; split <;> rfl
@[simp] theorem vblankEndEvent_x (s : State) : (vblankEndEvent s).x = s.x := by
  simp only [vblankEndEvent]; split <;> rfl
@[simp] theorem vblankEndEvent_y (s : State) : (vblankEndEvent s).y = s.y := by
  simp only [vblankEndEvent]; split <;> rfl
@[simp] theorem vblankEndEvent_sp (s : State) : (vblankEndEvent s).sp = s.sp := by
  simp only [vblankEndEvent]; split <;> rfl
@[simp] theorem vblankEndEvent_pc (s : State) : (vblankEndEvent s).pc = s.pc := by
  simp only [vblankEndEvent]; split <;> rfl
@[simp] theorem vblankEndEvent_p (s : State) : (vblankEndEvent s).p = s.p := by
  simp only [vblankEndEvent]; split <;> rfl
@[simp] theorem vblankEndEvent_pageCrossed (s : State) : (vblankEndEvent s).pageCrossed = s.pageCrossed := by
  simp only [vblankEndEvent]; split <;> rfl
@[simp] theorem vblankEndEvent_branchTaken (s : State) : (vblankEndEvent s).branchTaken = s.branchTaken := by
  simp only [vblankEndEvent]; split <;> rfl
@[simp] theorem vblankEndEvent_dmaStall (s : State) : (vblankEndEvent s).dmaStall = s.dmaStall := by
  simp only [vblankEndEvent]; split <;> rfl
@[simp] theorem vblankEndEvent_fault (s : State) : (vblankEndEvent s).fault = s.fault := by
  simp only [vblankEndEvent]; split <;> rfl
@[simp] theorem vblankEndEvent_totalCycles (s : State) : (vblankEndEvent s).totalCycles = s.totalCycles := by
  simp only [vblankEndEvent]; split <;> rfl
@[simp] theorem vblankEndEvent_ram (s : State) : (vblankEndEvent s).ram = s.ram := by
  simp only [vblankEndEvent]; split <;> rfl
@[simp] theorem vblankEndEvent_cart (s : State) : (vblankEndEvent s).cart = s.cart := by
  simp only [vblankEndEvent]; split <;> rfl
@[simp] theorem vblankEndEvent_pads (s : State) : (vblankEndEvent s).pads = s.pads := by
  simp only [vblankEndEvent]; split <;> rfl
@[simp] theorem vblankEndEvent_oamDmaStall (s : State) : (vblankEndEvent s).oamDmaStall = s.oamDmaStall := by
  simp only [vblankEndEvent]; split <;> rfl
@[simp] theorem vblankEndEvent_irqIn (s : State) : (vblankEndEvent s).irqIn = s.irqIn := by
  simp only [vblankEndEvent]; split <;> rfl
@[simp] theorem vblankEndEvent_stepNo (s : State) : (vblankEndEvent s).stepNo = s.stepNo := by
  simp only [vblankEndEvent]; split <;> rfl
@[simp] theorem vblankEndEvent_draws (s : State) : (vblankEndEvent s).draws = s.draws := by
  simp only [vblankEndEvent]; split <;> rfl
@[simp] theorem vblankEndEvent_ppu_ctrl (s : State) : (vblankEndEvent s).ppu.ctrl = s.ppu.ctrl := by
  simp only [vblankEndEvent]; split <;> rfl
@[simp] theorem vblankEndEvent_ppu_mask (s : State) : (vblankEndEvent s).ppu.mask = s.ppu.mask := by
  simp only [vblankEndEvent]; split <;> rfl
@[simp] theorem vblankEndEvent_ppu_oamAddr (s : State) : (vblankEndEvent s).ppu.oamAddr = s.ppu.oamAddr := by
  simp only [vblankEndEvent]; split <;> rfl
@[simp] theorem vblankEndEvent_ppu_oam (s : State) : (vblankEndEvent s).ppu.oam = s.ppu.oam := by
  simp only [vblankEndEvent]; split <;> rfl
@[simp] theorem vblankEndEvent_ppu_secondary (s : State) : (vblankEndEvent s).ppu.secondary = s.ppu.secondary := by
  simp only [vblankEndEvent]; split <;> rfl
@[simp] theorem vblankEndEvent_ppu_v (s : State) : (vblankEndEvent s).ppu.v = s.ppu.v := by
  simp only [vblankEndEvent]; split <;> rfl
@[simp] theorem vblankEndEvent_ppu_t (s : State) : (vblankEndEvent s).ppu.t = s.ppu.t := by
  simp only [vblankEndEvent]; split <;> rfl
@[simp] theorem vblankEndEvent_ppu_fineX (s : State) : (vblankEndEvent s).ppu.fineX = s.ppu.fineX := by
  simp only [vblankEndEvent]; split <;> rfl
@[simp] theorem vblankEndEvent_ppu_w (s : State) : (vblankEndEvent s).ppu.w = s.ppu.w := by
  simp only [vblankEndEvent]; split <;> rfl
@[simp] theorem vblankEndEvent_ppu_readBuffer (s : State) : (vblankEndEvent s).ppu.readBuffer = s.ppu.readBuffer := by
  simp only [vblankEndEvent]; split <;> rfl
@[simp] theorem vblankEndEvent_ppu_ob (s : State) : (vblankEndEvent s).ppu.ob = s.ppu.ob := by
  simp only [vblankEndEvent]; split <;> rfl
@[simp] theorem vblankEndEvent_ppu_obTimers (s : State) : (vblankEndEvent s).ppu.obTimers = s.ppu.obTimers := by
  simp only [vblankEndEvent]; split <;> rfl
@[simp] theorem vblankEndEvent_ppu_vram (s : State) : (vblankEndEvent s).ppu.vram = s.ppu.vram := by
  simp only [vblankEndEvent]; split <;> rfl
@[simp] theorem vblankEndEvent_ppu_palette (s : State) : (vblankEndEvent s).ppu.palette = s.ppu.palette := by
  simp only [vblankEndEvent]; split <;> rfl
@[simp] theorem vblankEndEvent_ppu_scanline (s : State) : (vblankEndEvent s).ppu.scanline = s.ppu.scanline := by
  simp only [vblankEndEvent]; split <;> rfl
@[simp] theorem vblankEndEvent_ppu_cycle (s : State) : (vblankEndEvent s).ppu.cycle = s.ppu.cycle := by
  simp only [vblankEndEvent]; split <;> rfl
@[simp] theorem vblankEndEvent_ppu_dmaActive (s : State) : (vblankEndEvent s).ppu.dmaActive = s.ppu.dmaActive := by
  simp only [vblankEndEvent]; split <;> rfl
@[simp] theorem vblankEndEvent_ppu_frame (s : State) : (vblankEndEvent s).ppu.frame = s.ppu.frame := by
  simp only [vblankEndEvent]; split <;> rfl

@[simp] theorem coarseXEvent_ctrl (u : Ppu) : (coarseXEvent u).ctrl = u.ctrl := by
  unfold coarseXEvent; split <;> rfl
@[simp] theorem coarseXEvent_mask (u : Ppu) : (coarseXEvent u).mask = u.mask := by
  unfold coarseXEvent; split <;> rfl
@[simp] theorem coarseXEvent_vblank (u : Ppu) : (coarseXEvent u).vblank = u.vblank := by
  unfold coarseXEvent; split <;> rfl
@[simp] theorem coarseXEvent_sprite0Hit (u : Ppu) : (coarseXEvent u).sprite0Hit = u.sprite0Hit := by
  unfold coarseXEvent; split <;> rfl
@[simp] theorem coarseXEvent_spriteOverflow (u : Ppu) : (coarseXEvent u).spriteOverflow = u.spriteOverflow := by
  unfold coarseXEvent; split <;> rfl
@[simp] theorem coarseXEvent_oamAddr (u : Ppu) : (coarseXEvent u).oamAddr = u.oamAddr := by
  unfold coarseXEvent; split <;> rfl
@[simp] theorem coarseXEvent_oam (u : Ppu) : (coarseXEvent u).oam = u.oam := by
  unfold coarseXEvent; split <;> rfl
@[simp] theorem coarseXEvent_secondary (u : Ppu) : (coarseXEvent u).secondary = u.secondary := by
  unfold coarseXEvent; split <;> rfl
@[simp] theorem coarseXEvent_t (u : Ppu) : (coarseXEvent u).t = u.t := by
  unfold coarseXEvent; split <;> rfl
@[simp] theorem coarseXEvent_fineX (u : Ppu) : (coarseXEvent u).fineX = u.fineX := by
  unfold coarseXEvent; split <;> rfl
@[simp] theorem coarseXEvent_w (u : Ppu) : (coarseXEvent u).w = u.w := by
  unfold coarseXEvent; split <;> rfl
@[simp] theorem coarseXEvent_readBuffer (u : Ppu) : (coarseXEvent u).readBuffer = u.readBuffer := by
  unfold coarseXEvent; split <;> rfl
@[simp] theorem coarseXEvent_ob (u : Ppu) : (coarseXEvent u).ob = u.ob := by
  unfold coarseXEvent; split <;> rfl
@[simp] theorem coarseXEvent_obTimers (u : Ppu) : (coarseXEvent u).obTimers = u.obTimers := by
  unfold coarseXEvent; split <;> rfl
@[simp] theorem coarseXEvent_vram (u : Ppu) : (coarseXEvent u).vram = u.vram := by
  unfold coarseXEvent; split <;> rfl
@[simp] theorem coarseXEvent_palette (u : Ppu) : (coarseXEvent u).palette = u.palette := by
  unfold coarseXEvent; split <;> rfl
@[simp] theorem coarseXEvent_scanline (u : Ppu) : (coarseXEvent u).scanline = u.scanline := by
  unfold coarseXEvent; split <;> rfl
@[simp] theorem coarseXEvent_cycle (u : Ppu) : (coarseXEvent u).cycle = u.cycle := by
  unfold coarseXEvent; split <;> rfl
@[simp] theorem coarseXEvent_dmaActive (u : Ppu) : (coarseXEvent u).dmaActive = u.dmaActive := by
  unfold coarseXEvent; split <;> rfl
@[simp] theorem coarseXEvent_nmiOut (u : Ppu) : (coarseXEvent u).nmiOut = u.nmiOut := by
  unfold coarseXEvent; split <;> rfl
@[simp] theorem coarseXEvent_frame (u : Ppu) : (coarseXEvent u).frame = u.frame := by
  unfold coarseXEvent; split <;> rfl

@[simp] theorem yEvent_ctrl (u : Ppu) : (yEvent u).ctrl = u.ctrl := by
  unfold yEvent; split <;> rfl
@[simp] theorem yEvent_mask (u : Ppu) : (yEvent u).mask = u.mask := by
  unfold yEvent; split <;> rfl
@[simp] theorem yEvent_vblank (u : Ppu) : (yEvent u).vblank = u.vblank := by
  unfold yEvent; split <;> rfl
@[simp] theorem yEvent_sprite0Hit (u : Ppu) : (yEvent u).sprite0Hit = u.sprite0Hit := by
  unfold yEvent; split <;> rfl
@[simp] theorem yEvent_spriteOverflow (u : Ppu) : (yEvent u).spriteOverflow = u.spriteOverflow := by
  unfold yEvent; split <;> rfl
@[simp] theorem yEvent_oamAddr (u : Ppu) : (yEvent u).oamAddr = u.oamAddr := by
  unfold yEvent; split <;> rfl
@[simp] theorem yEvent_oam (u : Ppu) : (yEvent u).oam = u.oam := by
  unfold yEvent; split <;> rfl
@[simp] theorem yEvent_secondary (u : Ppu) : (yEvent u).secondary = u.secondary := by
  unfold yEvent; split <;> rfl
@[simp] theorem yEvent_t (u : Ppu) : (yEvent u).t = u.t := by
  unfold yEvent; split <;> rfl
@[simp] theorem yEvent_fineX (u : Ppu) : (yEvent u).fineX = u.fineX := by
  unfold yEvent; split <;> rfl
@[simp] theorem yEvent_w (u : Ppu) : (yEvent u).w = u.w := by
  unfold yEvent; split <;> rfl
@[simp] theorem yEvent_readBuffer (u : Ppu) : (yEvent u).readBuffer = u.readBuffer := by
  unfold yEvent; split <;> rfl
@[simp] theorem yEvent_ob (u : Ppu) : (yEvent u).ob = u.ob := by
  unfold yEvent; split <;> rfl
@[simp] theorem yEvent_obTimers (u : Ppu) : (yEvent u).obTimers = u.obTimers := by
  unfold yEvent; split <;> rfl
@[simp] theorem yEvent_vram (u : Ppu) : (yEvent u).vram = u.vram := by
  unfold yEvent; split <;> rfl
@[simp] theorem yEvent_palette (u : Ppu) : (yEvent u).palette = u.palette := by
  unfold yEvent; split <;> rfl
@[simp] theorem yEvent_scanline (u : Ppu) : (yEvent u).scanline = u.scanline := by
  unfold yEvent; split <;> rfl
@[simp] theorem yEvent_cycle (u : Ppu) : (yEvent u).cycle = u.cycle := by
  unfold yEvent; split <;> rfl
@[simp] theorem yEvent_dmaActive (u : Ppu) : (yEvent u).dmaActive = u.dmaActive := by
  unfold yEvent; split <;> rfl
@[simp] theorem yEvent_nmiOut (u : Ppu) : (yEvent u).nmiOut = u.nmiOut := by
  unfold yEvent; split <;> rfl
@[simp] theorem yEvent_frame (u : Ppu) : (yEvent u).frame = u.frame := by
  unfold yEvent; split <;> rfl

@[simp] theorem spriteEvent_ctrl (u : Ppu) : (spriteEvent u).ctrl = u.ctrl := by
  unfold spriteEvent; split <;> rfl
@[simp] theorem spriteEvent_mask (u : Ppu) : (spriteEvent u).mask = u.mask := by
  unfold spriteEvent; split <;> rfl
@[simp] theorem spriteEvent_vblank (u : Ppu) : (spriteEvent u).vblank = u.vblank := by
  unfold spriteEvent; split <;> rfl
@[simp] theorem spriteEvent_sprite0Hit (u : Ppu) : (spriteEvent u).sprite0Hit = u.sprite0Hit := by
  unfold spriteEvent; split <;> rfl
@[simp] theorem spriteEvent_oamAddr (u : Ppu) : (spriteEvent u).oamAddr = u.oamAddr := by
  unfold spriteEvent; split <;> rfl
@[simp] theorem spriteEvent_oam (u : Ppu) : (spriteEvent u).oam = u.oam := by
  unfold spriteEvent; split <;> rfl
@[simp] theorem spriteEvent_v (u : Ppu) : (spriteEvent u).v = u.v := by
  unfold spriteEvent; split <;> rfl
@[simp] theorem spriteEvent_t (u : Ppu) : (spriteEvent u).t = u.t := by
  unfold spriteEvent; split <;> rfl
@[simp] theorem spriteEvent_fineX (u : Ppu) : (spriteEvent u).fineX = u.fineX := by
  unfold spriteEvent; split <;> rfl
@[simp] theorem spriteEvent_w (u : Ppu) : (spriteEvent u).w = u.w := by
  unfold spriteEvent; split <;> rfl
@[simp] theorem spriteEvent_readBuffer (u : Ppu) : (spriteEvent u).readBuffer = u.readBuffer := by
  unfold spriteEvent; split <;> rfl
@[simp] theorem spriteEvent_ob (u : Ppu) : (spriteEvent u).ob = u.ob := by
  unfold spriteEvent; split <;> rfl
@[simp] theorem spriteEvent_obTimers (u : Ppu) : (spriteEvent u).obTimers = u.obTimers := by
  unfold spriteEvent; split <;> rfl
@[simp] theorem spriteEvent_vram (u : Ppu) : (spriteEvent u).vram = u.vram := by
  unfold spriteEvent; split <;> rfl
@[simp] theorem spriteEvent_palette (u : Ppu) : (spriteEvent u).palette = u.palette := by
  unfold spriteEvent; split <;> rfl
@[simp] theorem spriteEvent_scanline (u : Ppu) : (spriteEvent u).scanline = u.scanline := by
  unfold spriteEvent; split <;> rfl
@[simp] theorem spriteEvent_cycle (u : Ppu) : (spriteEvent u).cycle = u.cycle := by
  unfold spriteEvent; split <;> rfl
@[simp] theorem spriteEvent_dmaActive (u : Ppu) : (spriteEvent u).dmaActive = u.dmaActive := by
  unfold spriteEvent; split <;> rfl
@[simp] theorem spriteEvent_nmiOut (u : Ppu) : (spriteEvent u).nmiOut = u.nmiOut := by
  unfold spriteEvent; split <;> rfl
@[simp] theorem spriteEvent_frame (u : Ppu) : (spriteEvent u).frame = u.frame := by
  unfold spriteEvent; split <;> rfl

@[simp] theorem horizontalEvent_ctrl (u : Ppu) : (horizontalEvent u).ctrl = u.ctrl := by
  unfold horizontalEvent; split <;> rfl
@[simp] theorem horizontalEvent_mask (u : Ppu) : (horizontalEvent u).mask = u.mask := by
  unfold horizontalEvent; split <;> rfl
@[simp] theorem horizontalEvent_vblank (u : Ppu) : (horizontalEvent u).vblank = u.vblank := by
  unfold horizontalEvent; split <;> rfl
@[simp] theorem horizontalEvent_sprite0Hit (u : Ppu) : (horizontalEvent u).sprite0Hit = u.sprite0Hit := by
  unfold horizontalEvent; split <;> rfl
@[simp] theorem horizontalEvent_spriteOverflow (u : Ppu) : (horizontalEvent u).spriteOverflow = u.spriteOverflow := by
  unfold horizontalEvent; split <;> rfl
@[simp] theorem horizontalEvent_oamAddr (u : Ppu) : (horizontalEvent u).oamAddr = u.oamAddr := by
  unfold horizontalEvent; split <;> rfl
@[simp] theorem horizontalEvent_oam (u : Ppu) : (horizontalEvent u).oam = u.oam := by
  unfold horizontalEvent; split <;> rfl
@[simp] theorem horizontalEvent_secondary (u : Ppu) : (horizontalEvent u).secondary = u.secondary := by
  unfold horizontalEvent; split <;> rfl
@[simp] theorem horizontalEvent_t (u : Ppu) : (horizontalEvent u).t = u.t := by
  unfold horizontalEvent; split <;> rfl
@[simp] theorem horizontalEvent_fineX (u : Ppu) : (horizontalEvent u).fineX = u.fineX := by
  unfold horizontalEvent; split <;> rfl
@[simp] theorem horizontalEvent_w (u : Ppu) : (horizontalEvent u).w = u.w := by
  unfold horizontalEvent; split <;> rfl
@[simp] theorem horizontalEvent_readBuffer (u : Ppu) : (horizontalEvent u).readBuffer = u.readBuffer := by
  unfold horizontalEvent; split <;> rfl
@[simp] theorem horizontalEvent_ob (u : Ppu) : (horizontalEvent u).ob = u.ob := by
  unfold horizontalEvent; split <;> rfl
@[simp] theorem horizontalEvent_obTimers (u : Ppu) : (horizontalEvent u).obTimers = u.obTimers := by
  unfold horizontalEvent; split <;> rfl
@[simp] theorem horizontalEvent_vram (u : Ppu) : (horizontalEvent u).vram = u.vram := by
  unfold horizontalEvent; split <;> rfl
@[simp] theorem horizontalEvent_palette (u : Ppu) : (horizontalEvent u).palette = u.palette := by
  unfold horizontalEvent; split <;> rfl
@[simp] theorem horizontalEvent_scanline (u : Ppu) : (horizontalEvent u).scanline = u.scanline := by
  unfold horizontalEvent; split <;> rfl
@[simp] theorem horizontalEvent_cycle (u : Ppu) : (horizontalEvent u).cycle = u.cycle := by
  unfold horizontalEvent; split <;> rfl
@[simp] theorem horizontalEvent_dmaActive (u : Ppu) : (horizontalEvent u).dmaActive = u.dmaActive := by
  unfold horizontalEvent; split <;> rfl
@[simp] theorem horizontalEvent_nmiOut (u : Ppu) : (horizontalEvent u).nmiOut = u.nmiOut := by
  unfold horizontalEvent; split <;> rfl
@[simp] theorem horizontalEvent_frame (u : Ppu) : (horizontalEvent u).frame = u.frame := by
  unfold horizontalEvent; split <;> rfl

@[simp] theorem verticalEvent_ctrl (u : Ppu) : (verticalEvent u).ctrl = u.ctrl := by
  unfold verticalEvent; split <;> rfl
@[simp] theorem verticalEvent_mask (u : Ppu) : (verticalEvent u).mask = u.mask := by
  unfold verticalEvent; split <;> rfl
@[simp] theorem verticalEvent_vblank (u : Ppu) : (verticalEvent u).vblank = u.vblank := by
  unfold verticalEvent; split <;> rfl
@[simp] theorem verticalEvent_sprite0Hit (u : Ppu) : (verticalEvent u).sprite0Hit = u.sprite0Hit := by
  unfold verticalEvent; split <;> rfl
@[simp] theorem verticalEvent_spriteOverflow (u : Ppu) : (verticalEvent u).spriteOverflow = u.spriteOverflow := by
  unfold verticalEvent; split <;> rfl
@[simp] theorem verticalEvent_oamAddr (u : Ppu) : (verticalEvent u).oamAddr = u.oamAddr := by
  unfold verticalEvent; split <;> rfl
@[simp] theorem verticalEvent_oam (u : Ppu) : (verticalEvent u).oam = u.oam := by
  unfold verticalEvent; split <;> rfl
@[simp] theorem verticalEvent_secondary (u : Ppu) : (verticalEvent u).secondary = u.secondary := by
  unfold verticalEvent; split <;> rfl
@[simp] theorem verticalEvent_t (u : Ppu) : (verticalEvent u).t = u.t := by
  unfold verticalEvent; split <;> rfl
@[simp] theorem verticalEvent_fineX (u : Ppu) : (verticalEvent u).fineX = u.fineX := by
  unfold verticalEvent; split <;> rfl
@[simp] theorem verticalEvent_w (u : Ppu) : (verticalEvent u).w = u.w := by
  unfold verticalEvent; split <;> rfl
@[simp] theorem verticalEvent_readBuffer (u : Ppu) : (verticalEvent u).readBuffer = u.readBuffer := by
  unfold verticalEvent; split <;> rfl
@[simp] theorem verticalEvent_ob (u : Ppu) : (verticalEvent u).ob = u.ob := by
  unfold verticalEvent; split <;> rfl
@[simp] theorem verticalEvent_obTimers (u : Ppu) : (verticalEvent u).obTimers = u.obTimers := by
  unfold verticalEvent; split <;> rfl
@[simp] theorem verticalEvent_vram (u : Ppu) : (verticalEvent u).vram = u.vram := by
  unfold verticalEvent; split <;> rfl
@[simp] theorem verticalEvent_palette (u : Ppu) : (verticalEvent u).palette = u.palette := by
  unfold verticalEvent; split <;> rfl
@[simp] theorem verticalEvent_scanline (u : Ppu) : (verticalEvent u).scanline = u.scanline := by
  unfold verticalEvent; split <;> rfl
@[simp] theorem verticalEvent_cycle (u : Ppu) : (verticalEvent u).cycle = u.cycle := by
  unfold verticalEvent; split <;> rfl
@[simp] theorem verticalEvent_dmaActive (u : Ppu) : (verticalEvent u).dmaActive = u.dmaActive := by
  unfold verticalEvent; split <;> rfl
@[simp] theorem verticalEvent_nmiOut (u : Ppu) : (verticalEvent u).nmiOut = u.nmiOut := by
  unfold verticalEvent; split <;> rfl
@[simp] theorem verticalEvent_frame (u : Ppu) : (verticalEvent u).frame = u.frame := by
  unfold verticalEvent; split <;> rfl

@[simp] theorem scrollEvents_ctrl (u : Ppu) : u.scrollEvents.ctrl = u.ctrl := by simp [Ppu.scrollEvents]
@[simp] theorem scrollEvents_mask (u : Ppu) : u.scrollEvents.mask = u.mask := by simp [Ppu.scrollEvents]
@[simp] theorem scrollEvents_vblank (u : Ppu) : u.scrollEvents.vblank = u.vblank := by simp [Ppu.scrollEvents]
@[simp] theorem scrollEvents_sprite0Hit (u : Ppu) : u.scrollEvents.sprite0Hit = u.sprite0Hit := by simp [Ppu.scrollEvents]
@[simp] theorem scrollEvents_oamAddr (u : Ppu) : u.scrollEvents.oamAddr = u.oamAddr := by simp [Ppu.scrollEvents]
@[simp] theorem scrollEvents_oam (u : Ppu) : u.scrollEvents.oam = u.oam := by simp [Ppu.scrollEvents]
@[simp] theorem scrollEvents_t (u : Ppu) : u.scrollEvents.t = u.t := by simp [Ppu.scrollEvents]
@[simp] theorem scrollEvents_fineX (u : Ppu) : u.scrollEvents.fineX = u.fineX := by simp [Ppu.scrollEvents]
@[simp] theorem scrollEvents_w (u : Ppu) : u.scrollEvents.w = u.w := by simp [Ppu.scrollEvents]
@[simp] theorem scrollEvents_readBuffer (u : Ppu) : u.scrollEvents.readBuffer = u.readBuffer := by simp [Ppu.scrollEvents]
@[simp] theorem scrollEvents_ob (u : Ppu) : u.scrollEvents.ob = u.ob := by simp [Ppu.scrollEvents]
@[simp] theorem scrollEvents_obTimers (u : Ppu) : u.scrollEvents.obTimers = u.obTimers := by simp [Ppu.scrollEvents]
@[simp] theorem scrollEvents_vram (u : Ppu) : u.scrollEvents.vram = u.vram := by simp [Ppu.scrollEvents]
@[simp] theorem scrollEvents_palette (u : Ppu) : u.scrollEvents.palette = u.palette := by simp [Ppu.scrollEvents]
@[simp] theorem scrollEvents_scanline (u : Ppu) : u.scrollEvents.scanline = u.scanline := by simp [Ppu.scrollEvents]
@[simp] theorem scrollEvents_cycle (u : Ppu) : u.scrollEvents.cycle = u.cycle := by simp [Ppu.scrollEvents]
@[simp] theorem scrollEvents_dmaActive (u : Ppu) : u.scrollEvents.dmaActive = u.dmaActive := by simp [Ppu.scrollEvents]
@[simp] theorem scrollEvents_nmiOut (u : Ppu) : u.scrollEvents.nmiOut = u.nmiOut := by simp [Ppu.scrollEvents]
@[simp] theorem scrollEvents_frame (u : Ppu) : u.scrollEvents.frame = u.frame := by simp [Ppu.scrollEvents]

@[simp] theorem openBusTick_ctrl (u : Ppu) : u.openBusTick.ctrl = u.ctrl := rfl
@[simp] theorem openBusTick_mask (u : Ppu) : u.openBusTick.mask = u.mask := rfl
@[simp] theorem openBusTick_vblank (u : Ppu) : u.openBusTick.vblank = u.vblank := rfl
@[simp] theorem openBusTick_sprite0Hit (u : Ppu) : u.openBusTick.sprite0Hit = u.sprite0Hit := rfl
@[simp] theorem openBusTick_spriteOverflow (u : Ppu) : u.openBusTick.spriteOverflow = u.spriteOverflow := rfl
@[simp] theorem openBusTick_oamAddr (u : Ppu) : u.openBusTick.oamAddr = u.oamAddr := rfl
@[simp] theorem openBusTick_oam (u : Ppu) : u.openBusTick.oam = u.oam := rfl
@[simp] theorem openBusTick_secondary (u : Ppu) : u.openBusTick.secondary = u.secondary := rfl
@[simp] theorem openBusTick_v (u : Ppu) : u.openBusTick.v = u.v := rfl
@[simp] theorem openBusTick_t (u : Ppu) : u.openBusTick.t = u.t := rfl
@[simp] theorem openBusTick_fineX (u : Ppu) : u.openBusTick.fineX = u.fineX := rfl
@[simp] theorem openBusTick_w (u : Ppu) : u.openBusTick.w = u.w := rfl
@[simp] theorem openBusTick_readBuffer (u : Ppu) : u.openBusTick.readBuffer = u.readBuffer := rfl
@[simp] theorem openBusTick_vram (u : Ppu) : u.openBusTick.vram = u.vram := rfl
@[simp] theorem openBusTick_palette (u : Ppu) : u.openBusTick.palette = u.palette := rfl
@[simp] theorem openBusTick_scanline (u : Ppu) : u.openBusTick.scanline = u.scanline := rfl
@[simp] theorem openBusTick_cycle (u : Ppu) : u.openBusTick.cycle = u.cycle := rfl
@[simp] theorem openBusTick_dmaActive (u : Ppu) : u.openBusTick.dmaActive = u.dmaActive := rfl
@[simp] theorem openBusTick_nmiOut (u : Ppu) : u.openBusTick.nmiOut = u.nmiOut := rfl
@[simp] theorem openBusTick_frame (u : Ppu) : u.openBusTick.frame = u.frame := rfl

@[simp] theorem advance_ctrl (u : Ppu) : u.advance.ctrl = u.ctrl := by
  unfold Ppu.advance; split <;> rfl
@[simp] theorem advance_mask (u : Ppu) : u.advance.mask = u.mask := by
  unfold Ppu.advance; split <;> rfl
@[simp] theorem advance_vblank (u : Ppu) : u.advance.vblank = u.vblank := by
  unfold Ppu.advance; split <;> rfl
@[simp] theorem advance_sprite0Hit (u : Ppu) : u.advance.sprite0Hit = u.sprite0Hit := by
  unfold Ppu.advance; split <;> rfl
@[simp] theorem advance_spriteOverflow (u : Ppu) : u.advance.spriteOverflow = u.spriteOverflow := by
  unfold Ppu.advance; split <;> rfl
@[simp] theorem advance_oamAddr (u : Ppu) : u.advance.oamAddr = u.oamAddr := by
  unfold Ppu.advance; split <;> rfl
@[simp] theorem advance_oam (u : Ppu) : u.advance.oam = u.oam := by
  unfold Ppu.advance; split <;> rfl
@[simp] theorem advance_secondary (u : Ppu) : u.advance.secondary = u.secondary := by
  unfold Ppu.advance; split <;> rfl
@[simp] theorem advance_v (u : Ppu) : u.advance.v = u.v := by
  unfold Ppu.advance; split <;> rfl
@[simp] theorem advance_t (u : Ppu) : u.advance.t = u.t := by
  unfold Ppu.advance; split <;> rfl
@[simp] theorem advance_fineX (u : Ppu) : u.advance.fineX = u.fineX := by
  unfold Ppu.advance; split <;> rfl
@[simp] theorem advance_w (u : Ppu) : u.advance.w = u.w := by
  unfold Ppu.advance; split <;> rfl
@[simp] theorem advance_readBuffer (u : Ppu) : u.advance.readBuffer = u.readBuffer := by
  unfold Ppu.advance; split <;> rfl
@[simp] theorem advance_ob (u : Ppu) : u.advance.ob = u.ob := by
  unfold Ppu.advance; split <;> rfl
@[simp] theorem advance_obTimers (u : Ppu) : u.advance.obTimers = u.obTimers := by
  unfold Ppu.advance; split <;> rfl
@[simp] theorem advance_vram (u : Ppu) : u.advance.vram = u.vram := by
  unfold Ppu.advance; split <;> rfl
@[simp] theorem advance_palette (u : Ppu) : u.advance.palette = u.palette := by
  unfold Ppu.advance; split <;> rfl
@[simp] theorem advance_dmaActive (u : Ppu) : u.advance.dmaActive = u.dmaActive := by
  unfold Ppu.advance; split <;> rfl
@[simp] theorem advance_nmiOut (u : Ppu) : u.advance.nmiOut = u.nmiOut := by
  unfold Ppu.advance; split <;> rfl
@[simp] theorem advance_frame (u : Ppu) : u.advance.frame = u.frame := by
  unfold Ppu.advance; split <;> rfl

/-- A PPU cycle leaves `a` unchanged. -/
@[simp] theorem ppuStep_a (s : State) : (ppuStep s).a = s.a := by simp [ppuStep, ppuEvents]
/-- A PPU cycle leaves `x` unchanged. -/
@[simp] theorem ppuStep_x (s : State) : (ppuStep s).x = s.x := by simp [ppuStep, ppuEvents]
/-- A PPU cycle leaves `y` unchanged. -/
@[simp] theorem ppuStep_y (s : State) : (ppuStep s).y = s.y := by simp [ppuStep, ppuEvents]
/-- A PPU cycle leaves `sp` unchanged. -/
@[simp] theorem ppuStep_sp (s : State) : (ppuStep s).sp = s.sp := by simp [ppuStep, ppuEvents]
/-- A PPU cycle leaves `pc` unchanged. -/
@[simp] theorem ppuStep_pc (s : State) : (ppuStep s).pc = s.pc := by simp [ppuStep, ppuEvents]
/-- A PPU cycle leaves `p` unchanged. -/
@[simp] theorem ppuStep_p (s : State) : (ppuStep s).p = s.p := by simp [ppuStep, ppuEvents]
/-- A PPU cycle leaves `pageCrossed` unchanged. -/
@[simp] theorem ppuStep_pageCrossed (s : State) : (ppuStep s).pageCrossed = s.pageCrossed := by simp [ppuStep, ppuEvents]
/-- A PPU cycle leaves `branchTaken` unchanged. -/
@[simp] theorem ppuStep_branchTaken (s : State) : (ppuStep s).branchTaken = s.branchTaken := by simp [ppuStep, ppuEvents]
/-- A PPU cycle leaves `dmaStall` unchanged. -/
@[simp] theorem ppuStep_dmaStall (s : State) : (ppuStep s).dmaStall = s.dmaStall := by simp [ppuStep, ppuEvents]
/-- A PPU cycle leaves `fault` unchanged. -/
@[simp] theorem ppuStep_fault (s : State) : (ppuStep s).fault = s.fault := by simp [ppuStep, ppuEvents]
/-- A PPU cycle leaves `totalCycles` unchanged. -/
@[simp] theorem ppuStep_totalCycles (s : State) : (ppuStep s).totalCycles = s.totalCycles := by simp [ppuStep, ppuEvents]
/-- A PPU cycle leaves `ram` unchanged. -/
@[simp] theorem ppuStep_ram (s : State) : (ppuStep s).ram = s.ram := by simp [ppuStep, ppuEvents]
/-- A PPU cycle leaves `cart` unchanged. -/
@[simp] theorem ppuStep_cart (s : State) : (ppuStep s).cart = s.cart := by simp [ppuStep, ppuEvents]
/-- A PPU cycle leaves `pads` unchanged. -/
@[simp] theorem ppuStep_pads (s : State) : (ppuStep s).pads = s.pads := by simp [ppuStep, ppuEvents]
/-- A PPU cycle leaves `oamDmaStall` unchanged. -/
@[simp] theorem ppuStep_oamDmaStall (s : State) : (ppuStep s).oamDmaStall = s.oamDmaStall := by simp [ppuStep, ppuEvents]
/-- A PPU cycle leaves `irqIn` unchanged. -/
@[simp] theorem ppuStep_irqIn (s : State) : (ppuStep s).irqIn = s.irqIn := by simp [ppuStep, ppuEvents]
/-- A PPU cycle leaves `stepNo` unchanged. -/
@[simp] theorem ppuStep_stepNo (s : State) : (ppuStep s).stepNo = s.stepNo := by simp [ppuStep, ppuEvents]
/-- A PPU cycle leaves `draws` unchanged. -/
@[simp] theorem ppuStep_draws (s : State) : (ppuStep s).draws = s.draws := by simp [ppuStep, ppuEvents]
/-- A PPU cycle leaves the PPU's `ctrl` unchanged. -/
@[simp] theorem ppuStep_ppu_ctrl (s : State) : (ppuStep s).ppu.ctrl = s.ppu.ctrl := by simp [ppuStep, ppuEvents]
/-- A PPU cycle leaves the PPU's `mask` unchanged. -/
@[simp] theorem ppuStep_ppu_mask (s : State) : (ppuStep s).ppu.mask = s.ppu.mask := by simp [ppuStep, ppuEvents]
/-- A PPU cycle leaves the PPU's `oamAddr` unchanged. -/
@[simp] theorem ppuStep_ppu_oamAddr (s : State) : (ppuStep s).ppu.oamAddr = s.ppu.oamAddr := by simp [ppuStep, ppuEvents]
/-- A PPU cycle leaves the PPU's `oam` unchanged. -/
@[simp] theorem ppuStep_ppu_oam (s : State) : (ppuStep s).ppu.oam = s.ppu.oam := by simp [ppuStep, ppuEvents]
/-- A PPU cycle leaves the PPU's `t` unchanged. -/
@[simp] theorem ppuStep_ppu_t (s : State) : (ppuStep s).ppu.t = s.ppu.t := by simp [ppuStep, ppuEvents]
/-- A PPU cycle leaves the PPU's `fineX` unchanged. -/
@[simp] theorem ppuStep_ppu_fineX (s : State) : (ppuStep s).ppu.fineX = s.ppu.fineX := by simp [ppuStep, ppuEvents]
/-- A PPU cycle leaves the PPU's `w` unchanged. -/
@[simp] theorem ppuStep_ppu_w (s : State) : (ppuStep s).ppu.w = s.ppu.w := by simp [ppuStep, ppuEvents]
/-- A PPU cycle leaves the PPU's `readBuffer` unchanged. -/
@[simp] theorem ppuStep_ppu_readBuffer (s : State) : (ppuStep s).ppu.readBuffer = s.ppu.readBuffer := by simp [ppuStep, ppuEvents]
/-- A PPU cycle leaves the PPU's `vram` unchanged. -/
@[simp] theorem ppuStep_ppu_vram (s : State) : (ppuStep s).ppu.vram = s.ppu.vram := by simp [ppuStep, ppuEvents]
/-- A PPU cycle leaves the PPU's `palette` unchanged. -/
@[simp] theorem ppuStep_ppu_palette (s : State) : (ppuStep s).ppu.palette = s.ppu.palette := by simp [ppuStep, ppuEvents]
/-- A PPU cycle leaves the PPU's `dmaActive` unchanged. -/
@[simp] theorem ppuStep_ppu_dmaActive (s : State) : (ppuStep s).ppu.dmaActive = s.ppu.dmaActive := by simp [ppuStep, ppuEvents]

/-- PPU cycles leave `a` unchanged. -/
@[simp] theorem ppuSteps_a (n : Nat) (s : State) : (ppuSteps n s).a = s.a := by
  induction n generalizing s with
  | zero => rfl
  | succ n ih => rw [ppuSteps, ih, ppuStep_a]
/-- PPU cycles leave `x` unchanged. -/
@[simp] theorem ppuSteps_x (n : Nat) (s : State) : (ppuSteps n s).x = s.x := by
  induction n generalizing s with
  | zero => rfl
  | succ n ih => rw [ppuSteps, ih, ppuStep_x]
/-- PPU cycles leave `y` unchanged. -/
@[simp] theorem ppuSteps_y (n : Nat) (s : State) : (ppuSteps n s).y = s.y := by
  induction n generalizing s with
  | zero => rfl
  | succ n ih => rw [ppuSteps, ih, ppuStep_y]
/-- PPU cycles leave `sp` unchanged. -/
@[simp] theorem ppuSteps_sp (n : Nat) (s : State) : (ppuSteps n s).sp = s.sp := by
  induction n generalizing s with
  | zero => rfl
  | succ n ih => rw [ppuSteps, ih, ppuStep_sp]
/-- PPU cycles leave `pc` unchanged. -/
@[simp] theorem ppuSteps_pc (n : Nat) (s : State) : (ppuSteps n s).pc = s.pc := by
  induction n generalizing s with
  | zero => rfl
  | succ n ih => rw [ppuSteps, ih, ppuStep_pc]
/-- PPU cycles leave `p` unchanged. -/
@[simp] theorem ppuSteps_p (n : Nat) (s : State) : (ppuSteps n s).p = s.p := by
  induction n generalizing s with
  | zero => rfl
  | succ n ih => rw [ppuSteps, ih, ppuStep_p]
/-- PPU cycles leave `pageCrossed` unchanged. -/
@[simp] theorem ppuSteps_pageCrossed (n : Nat) (s : State) : (ppuSteps n s).pageCrossed = s.pageCrossed := by
  induction n generalizing s with
  | zero => rfl
  | succ n ih => rw [ppuSteps, ih, ppuStep_pageCrossed]
/-- PPU cycles leave `branchTaken` unchanged. -/
@[simp] theorem ppuSteps_branchTaken (n : Nat) (s : State) : (ppuSteps n s).branchTaken = s.branchTaken := by
  induction n generalizing s with
  | zero => rfl
  | succ n ih => rw [ppuSteps, ih, ppuStep_branchTaken]
/-- PPU cycles leave `dmaStall` unchanged. -/
@[simp] theorem ppuSteps_dmaStall (n : Nat) (s : State) : (ppuSteps n s).dmaStall = s.dmaStall := by
  induction n generalizing s with
  | zero => rfl
  | succ n ih => rw [ppuSteps, ih, ppuStep_dmaStall]
/-- PPU cycles leave `fault` unchanged. -/
@[simp] theorem ppuSteps_fault (n : Nat) (s : State) : (ppuSteps n s).fault = s.fault := by
  induction n generalizing s with
  | zero => rfl
  | succ n ih => rw [ppuSteps, ih, ppuStep_fault]
/-- PPU cycles leave `totalCycles` unchanged. -/
@[simp] theorem ppuSteps_totalCycles (n : Nat) (s : State) : (ppuSteps n s).totalCycles = s.totalCycles := by
  induction n generalizing s with
  | zero => rfl
  | succ n ih => rw [ppuSteps, ih, ppuStep_totalCycles]
/-- PPU cycles leave `ram` unchanged. -/
@[simp] theorem ppuSteps_ram (n : Nat) (s : State) : (ppuSteps n s).ram = s.ram := by
  induction n generalizing s with
  | zero => rfl
  | succ n ih => rw [ppuSteps, ih, ppuStep_ram]
/-- PPU cycles leave `cart` unchanged. -/
@[simp] theorem ppuSteps_cart (n : Nat) (s : State) : (ppuSteps n s).cart = s.cart := by
  induction n generalizing s with
  | zero => rfl
  | succ n ih => rw [ppuSteps, ih, ppuStep_cart]
/-- PPU cycles leave `pads` unchanged. -/
@[simp] theorem ppuSteps_pads (n : Nat) (s : State) : (ppuSteps n s).pads = s.pads := by
  induction n generalizing s with
  | zero => rfl
  | succ n ih => rw [ppuSteps, ih, ppuStep_pads]
/-- PPU cycles leave `oamDmaStall` unchanged. -/
@[simp] theorem ppuSteps_oamDmaStall (n : Nat) (s : State) : (ppuSteps n s).oamDmaStall = s.oamDmaStall := by
  induction n generalizing s with
  | zero => rfl
  | succ n ih => rw [ppuSteps, ih, ppuStep_oamDmaStall]
/-- PPU cycles leave `irqIn` unchanged. -/
@[simp] theorem ppuSteps_irqIn (n : Nat) (s : State) : (ppuSteps n s).irqIn = s.irqIn := by
  induction n generalizing s with
  | zero => rfl
  | succ n ih => rw [ppuSteps, ih, ppuStep_irqIn]
/-- PPU cycles leave `stepNo` unchanged. -/
@[simp] theorem ppuSteps_stepNo (n : Nat) (s : State) : (ppuSteps n s).stepNo = s.stepNo := by
  induction n generalizing s with
  | zero => rfl
  | succ n ih => rw [ppuSteps, ih, ppuStep_stepNo]
/-- PPU cycles leave `draws` unchanged. -/
@[simp] theorem ppuSteps_draws (n : Nat) (s : State) : (ppuSteps n s).draws = s.draws := by
  induction n generalizing s with
  | zero => rfl
  | succ n ih => rw [ppuSteps, ih, ppuStep_draws]
/-- PPU cycles leave the PPU's `ctrl` unchanged. -/
@[simp] theorem ppuSteps_ppu_ctrl (n : Nat) (s : State) : (ppuSteps n s).ppu.ctrl = s.ppu.ctrl := by
  induction n generalizing s with
  | zero => rfl
  | succ n ih => rw [ppuSteps, ih, ppuStep_ppu_ctrl]
/-- PPU cycles leave the PPU's `mask` unchanged. -/
@[simp] theorem ppuSteps_ppu_mask (n : Nat) (s : State) : (ppuSteps n s).ppu.mask = s.ppu.mask := by
  induction n generalizing s with
  | zero => rfl
  | succ n ih => rw [ppuSteps, ih, ppuStep_ppu_mask]
/-- PPU cycles leave the PPU's `oamAddr` unchanged. -/
@[simp] theorem ppuSteps_ppu_oamAddr (n : Nat) (s : State) : (ppuSteps n s).ppu.oamAddr = s.ppu.oamAddr := by
  induction n generalizing s with
  | zero => rfl
  | succ n ih => rw [ppuSteps, ih, ppuStep_ppu_oamAddr]
/-- PPU cycles leave the PPU's `oam` unchanged. -/
@[simp] theorem ppuSteps_ppu_oam (n : Nat) (s : State) : (ppuSteps n s).ppu.oam = s.ppu.oam := by
  induction n generalizing s with
  | zero => rfl
  | succ n ih => rw [ppuSteps, ih, ppuStep_ppu_oam]
/-- PPU cycles leave the PPU's `t` unchanged. -/
@[simp] theorem ppuSteps_ppu_t (n : Nat) (s : State) : (ppuSteps n s).ppu.t = s.ppu.t := by
  induction n generalizing s with
  | zero => rfl
  | succ n ih => rw [ppuSteps, ih, ppuStep_ppu_t]
/-- PPU cycles leave the PPU's `fineX` unchanged. -/
@[simp] theorem ppuSteps_ppu_fineX (n : Nat) (s : State) : (ppuSteps n s).ppu.fineX = s.ppu.fineX := by
  induction n generalizing s with
  | zero => rfl
  | succ n ih => rw [ppuSteps, ih, ppuStep_ppu_fineX]
/-- PPU cycles leave the PPU's `w` unchanged. -/
@[simp] theorem ppuSteps_ppu_w (n : Nat) (s : State) : (ppuSteps n s).ppu.w = s.ppu.w := by
  induction n generalizing s with
  | zero => rfl
  | succ n ih => rw [ppuSteps, ih, ppuStep_ppu_w]
/-- PPU cycles leave the PPU's `readBuffer` unchanged. -/
@[simp] theorem ppuSteps_ppu_readBuffer (n : Nat) (s : State) : (ppuSteps n s).ppu.readBuffer = s.ppu.readBuffer := by
  induction n generalizing s with
  | zero => rfl
  | succ n ih => rw [ppuSteps, ih, ppuStep_ppu_readBuffer]
/-- PPU cycles leave the PPU's `vram` unchanged. -/
@[simp] theorem ppuSteps_ppu_vram (n : Nat) (s : State) : (ppuSteps n s).ppu.vram = s.ppu.vram := by
  induction n generalizing s with
  | zero => rfl
  | succ n ih => rw [ppuSteps, ih, ppuStep_ppu_vram]
/-- PPU cycles leave the PPU's `palette` unchanged. -/
@[simp] theorem ppuSteps_ppu_palette (n : Nat) (s : State) : (ppuSteps n s).ppu.palette = s.ppu.palette := by
  induction n generalizing s with
  | zero => rfl
  | succ n ih => rw [ppuSteps, ih, ppuStep_ppu_palette]
/-- PPU cycles leave the PPU's `dmaActive` unchanged. -/
@[simp] theorem ppuSteps_ppu_dmaActive (n : Nat) (s : State) : (ppuSteps n s).ppu.dmaActive = s.ppu.dmaActive := by
  induction n generalizing s with
  | zero => rfl
  | succ n ih => rw [ppuSteps, ih, ppuStep_ppu_dmaActive]

/-- PPU cycles in two runs. -/
theorem ppuSteps_add (m n : Nat) (s : State) : ppuSteps (m + n) s = ppuSteps n (ppuSteps m s) := by
  induction m generalizing s with
  | zero => rw [Nat.zero_add, ppuSteps]
  | succ m ih => rw [Nat.succ_add, ppuSteps, ih, ppuSteps]

/-- The PPU after the events of a cycle is where it was in the frame. -/
@[simp] theorem ppuEvents_ppu_scanline (s : State) : (ppuEvents s).ppu.scanline = s.ppu.scanline := by
  simp [ppuEvents]

@[simp] theorem ppuEvents_ppu_cycle (s : State) : (ppuEvents s).ppu.cycle = s.ppu.cycle := by
  simp [ppuEvents]

/-- The cycle after a PPU cycle (60 R263). -/
theorem ppuStep_ppu_cycle (s : State) :
    (ppuStep s).ppu.cycle = if 340 < s.ppu.cycle + 1 then 0 else s.ppu.cycle + 1 := by
  simp only [ppuStep, Ppu.advance, setPpu_ppu, openBusTick_cycle, ppuEvents_ppu_cycle]
  split <;> rfl

/-- The scanline after a PPU cycle (60 R263). -/
theorem ppuStep_ppu_scanline (s : State) :
    (ppuStep s).ppu.scanline = if 340 < s.ppu.cycle + 1 then
      if 260 < s.ppu.scanline + 1 then -1 else s.ppu.scanline + 1 else s.ppu.scanline := by
  simp only [ppuStep, Ppu.advance, setPpu_ppu, openBusTick_cycle, ppuEvents_ppu_cycle, openBusTick_scanline,
    ppuEvents_ppu_scanline]
  split <;> simp

/-- Vblank after a PPU cycle: set at (241, 1), cleared at (-1, 1), else as before (60 R264). -/
theorem ppuStep_ppu_vblank (s : State) :
    (ppuStep s).ppu.vblank = if s.ppu.scanline = 241 ∧ s.ppu.cycle = 1 then true
      else if s.ppu.scanline = -1 ∧ s.ppu.cycle = 1 then false else s.ppu.vblank := by
  simp only [ppuStep, ppuEvents, setPpu_ppu, advance_vblank, openBusTick_vblank]
  unfold vblankEndEvent
  simp only [vblankStartEvent_ppu_scanline, vblankStartEvent_ppu_cycle, setPpu_ppu, scrollEvents_scanline,
    scrollEvents_cycle, pixelEvent_ppu_scanline, pixelEvent_ppu_cycle]
  by_cases h : s.ppu.scanline = -1 ∧ s.ppu.cycle = 1
  · have h' : ¬ (s.ppu.scanline = 241 ∧ s.ppu.cycle = 1) := by omega
    simp [h.1, h.2, updateNmiOut]
  · have e : (decide (s.ppu.scanline = -1) && decide (s.ppu.cycle = 1)) = false := by
      simpa [Bool.and_eq_true] using h
    rw [e, if_neg Bool.false_ne_true, if_neg h]
    unfold vblankStartEvent
    by_cases h2 : s.ppu.scanline = 241 ∧ s.ppu.cycle = 1
    · simp [h2.1, h2.2, updateNmiOut]
    · have e2 : (decide (s.ppu.scanline = 241) && decide (s.ppu.cycle = 1)) = false := by
        simpa [Bool.and_eq_true] using h2
      simp [e2, h2]

end Sys2Proof.Machine
end

