-- ==== Sys2Proof/Tests/Slice0.lean ====
section
/-! SUPPORT. The model's own tests: the well-formedness smoke test, a word of every constructor decoded, single steps
with the results of spec/95, and a witness for the hypotheses of every statement that has some. -/

namespace Sys2Proof.Tests

section

-- One theorem after another: each of them is evaluated by the kernel, and a hundred at once would hold as many threads.
set_option Elab.async false

open Sys2Proof Sys2Proof.Machine Sys2Proof.Claims

/-! ### Well-formedness and decoding -/

/-- A branch offset outside -128..+127 is refused, and both ends are accepted (30 R102). -/
theorem test_wellFormed_branch_offsets :
    (Instr.bpl 128).wellFormed = false ∧ (Instr.bmi (-129)).wellFormed = false ∧
    (Instr.bvc 128).wellFormed = false ∧ (Instr.bvs (-129)).wellFormed = false ∧
    (Instr.bcc 200).wellFormed = false ∧ (Instr.bcs (-200)).wellFormed = false ∧
    (Instr.bne 128).wellFormed = false ∧ (Instr.beq (-129)).wellFormed = false ∧
    (Instr.bpl 127).wellFormed = true ∧ (Instr.beq (-128)).wellFormed = true := by
  decide

/-- An `INVALID` byte, no byte at all, and a missing operand byte are rejected by name (30 R103, R108). -/
theorem test_decode_rejects :
    decode [0x02, 0x00] = .error (.unimplementedOpcode 0x02) ∧
    decode [0xFF] = .error (.unimplementedOpcode 0xFF) ∧
    (∃ e, decode [] = .error e) ∧ (∃ e, decode [0xAD, 0x00] = .error e) := by
  exact ⟨by decide, by decide, ⟨_, rfl⟩, ⟨_, rfl⟩⟩

/-- Each list of bytes, written out from 30 R101 and R105, decodes to its instruction, with nothing left. -/
def decodesTo (l : List (List Byte × Instr)) : Bool :=
  l.all (fun e => (decode e.1).toOption == some (e.2, []))

theorem test_decode_loads_stores_transfers_a :
    decodesTo [
      ([0b10100001, 0b01011100], .ldaIndX 0x5C),
      ([0b10100101, 0b01011100], .ldaZp 0x5C),
      ([0b10101001, 0b01011100], .ldaImm 0x5C),
      ([0b10101101, 0b00110100, 0b00010010], .ldaAbs 0x1234),
      ([0b10110001, 0b01011100], .ldaIndY 0x5C),
      ([0b10110101, 0b01011100], .ldaZpX 0x5C),
      ([0b10111001, 0b00110100, 0b00010010], .ldaAbsY 0x1234),
      ([0b10111101, 0b00110100, 0b00010010], .ldaAbsX 0x1234),
      ([0b10100010, 0b01011100], .ldxImm 0x5C),
      ([0b10100110, 0b01011100], .ldxZp 0x5C),
      ([0b10101110, 0b00110100, 0b00010010], .ldxAbs 0x1234),
      ([0b10110110, 0b01011100], .ldxZpY 0x5C),
      ([0b10111110, 0b00110100, 0b00010010], .ldxAbsY 0x1234),
      ([0b10100000, 0b01011100], .ldyImm 0x5C),
      ([0b10100100, 0b01011100], .ldyZp 0x5C),
      ([0b10101100, 0b00110100, 0b00010010], .ldyAbs 0x1234),
      ([0b10110100, 0b01011100], .ldyZpX 0x5C),
      ([0b10111100, 0b00110100, 0b00010010], .ldyAbsX 0x1234),
      ([0b10000001, 0b01011100], .staIndX 0x5C),
      ([0b10000101, 0b01011100], .staZp 0x5C),
      ([0b10001101, 0b00110100, 0b00010010], .staAbs 0x1234),
      ([0b10010001, 0b01011100], .staIndY 0x5C),
      ([0b10010101, 0b01011100], .staZpX 0x5C),
      ([0b10011001, 0b00110100, 0b00010010], .staAbsY 0x1234),
      ([0b10011101, 0b00110100, 0b00010010], .staAbsX 0x1234),
      ([0b10000110, 0b01011100], .stxZp 0x5C),
      ([0b10001110, 0b00110100, 0b00010010], .stxAbs 0x1234),
      ([0b10010110, 0b01011100], .stxZpY 0x5C),
      ([0b10000100, 0b01011100], .styZp 0x5C),
      ([0b10001100, 0b00110100, 0b00010010], .styAbs 0x1234),
      ([0b10010100, 0b01011100], .styZpX 0x5C),
      ([0b10101010], .tax),
      ([0b10101000], .tay),
      ([0b10001010], .txa)] = true := by
  decide +kernel

theorem test_decode_loads_stores_transfers_b :
    decodesTo [
      ([0b10011000], .tya),
      ([0b10111010], .tsx),
      ([0b10011010], .txs)] = true := by
  decide +kernel

theorem test_decode_arithmetic_logic_a :
    decodesTo [
      ([0b01100001, 0b01011100], .adcIndX 0x5C),
      ([0b01100101, 0b01011100], .adcZp 0x5C),
      ([0b01101001, 0b01011100], .adcImm 0x5C),
      ([0b01101101, 0b00110100, 0b00010010], .adcAbs 0x1234),
      ([0b01110001, 0b01011100], .adcIndY 0x5C),
      ([0b01110101, 0b01011100], .adcZpX 0x5C),
      ([0b01111001, 0b00110100, 0b00010010], .adcAbsY 0x1234),
      ([0b01111101, 0b00110100, 0b00010010], .adcAbsX 0x1234),
      ([0b11100001, 0b01011100], .sbcIndX 0x5C),
      ([0b11100101, 0b01011100], .sbcZp 0x5C),
      ([0b11101001, 0b01011100], .sbcImm 0x5C),
      ([0b11101101, 0b00110100, 0b00010010], .sbcAbs 0x1234),
      ([0b11110001, 0b01011100], .sbcIndY 0x5C),
      ([0b11110101, 0b01011100], .sbcZpX 0x5C),
      ([0b11111001, 0b00110100, 0b00010010], .sbcAbsY 0x1234),
      ([0b11111101, 0b00110100, 0b00010010], .sbcAbsX 0x1234),
      ([0b00100001, 0b01011100], .andIndX 0x5C),
      ([0b00100101, 0b01011100], .andZp 0x5C),
      ([0b00101001, 0b01011100], .andImm 0x5C),
      ([0b00101101, 0b00110100, 0b00010010], .andAbs 0x1234),
      ([0b00110001, 0b01011100], .andIndY 0x5C),
      ([0b00110101, 0b01011100], .andZpX 0x5C),
      ([0b00111001, 0b00110100, 0b00010010], .andAbsY 0x1234),
      ([0b00111101, 0b00110100, 0b00010010], .andAbsX 0x1234),
      ([0b00000001, 0b01011100], .oraIndX 0x5C),
      ([0b00000101, 0b01011100], .oraZp 0x5C),
      ([0b00001001, 0b01011100], .oraImm 0x5C),
      ([0b00001101, 0b00110100, 0b00010010], .oraAbs 0x1234),
      ([0b00010001, 0b01011100], .oraIndY 0x5C),
      ([0b00010101, 0b01011100], .oraZpX 0x5C),
      ([0b00011001, 0b00110100, 0b00010010], .oraAbsY 0x1234),
      ([0b00011101, 0b00110100, 0b00010010], .oraAbsX 0x1234),
      ([0b01000001, 0b01011100], .eorIndX 0x5C),
      ([0b01000101, 0b01011100], .eorZp 0x5C)] = true := by
  decide +kernel

theorem test_decode_arithmetic_logic_b :
    decodesTo [
      ([0b01001001, 0b01011100], .eorImm 0x5C),
      ([0b01001101, 0b00110100, 0b00010010], .eorAbs 0x1234),
      ([0b01010001, 0b01011100], .eorIndY 0x5C),
      ([0b01010101, 0b01011100], .eorZpX 0x5C),
      ([0b01011001, 0b00110100, 0b00010010], .eorAbsY 0x1234),
      ([0b01011101, 0b00110100, 0b00010010], .eorAbsX 0x1234),
      ([0b00100100, 0b01011100], .bitZp 0x5C),
      ([0b00101100, 0b00110100, 0b00010010], .bitAbs 0x1234),
      ([0b11000001, 0b01011100], .cmpIndX 0x5C),
      ([0b11000101, 0b01011100], .cmpZp 0x5C),
      ([0b11001001, 0b01011100], .cmpImm 0x5C),
      ([0b11001101, 0b00110100, 0b00010010], .cmpAbs 0x1234),
      ([0b11010001, 0b01011100], .cmpIndY 0x5C),
      ([0b11010101, 0b01011100], .cmpZpX 0x5C),
      ([0b11011001, 0b00110100, 0b00010010], .cmpAbsY 0x1234),
      ([0b11011101, 0b00110100, 0b00010010], .cmpAbsX 0x1234),
      ([0b11100000, 0b01011100], .cpxImm 0x5C),
      ([0b11100100, 0b01011100], .cpxZp 0x5C),
      ([0b11101100, 0b00110100, 0b00010010], .cpxAbs 0x1234),
      ([0b11000000, 0b01011100], .cpyImm 0x5C),
      ([0b11000100, 0b01011100], .cpyZp 0x5C),
      ([0b11001100, 0b00110100, 0b00010010], .cpyAbs 0x1234),
      ([0b11100110, 0b01011100], .incZp 0x5C),
      ([0b11101110, 0b00110100, 0b00010010], .incAbs 0x1234),
      ([0b11110110, 0b01011100], .incZpX 0x5C),
      ([0b11111110, 0b00110100, 0b00010010], .incAbsX 0x1234),
      ([0b11000110, 0b01011100], .decZp 0x5C),
      ([0b11001110, 0b00110100, 0b00010010], .decAbs 0x1234),
      ([0b11010110, 0b01011100], .decZpX 0x5C),
      ([0b11011110, 0b00110100, 0b00010010], .decAbsX 0x1234),
      ([0b11101000], .inx),
      ([0b11001000], .iny),
      ([0b11001010], .dex),
      ([0b10001000], .dey)] = true := by
  decide +kernel

theorem test_decode_shifts :
    decodesTo [
      ([0b00000110, 0b01011100], .aslZp 0x5C),
      ([0b00001010], .aslAcc),
      ([0b00001110, 0b00110100, 0b00010010], .aslAbs 0x1234),
      ([0b00010110, 0b01011100], .aslZpX 0x5C),
      ([0b00011110, 0b00110100, 0b00010010], .aslAbsX 0x1234),
      ([0b01000110, 0b01011100], .lsrZp 0x5C),
      ([0b01001010], .lsrAcc),
      ([0b01001110, 0b00110100, 0b00010010], .lsrAbs 0x1234),
      ([0b01010110, 0b01011100], .lsrZpX 0x5C),
      ([0b01011110, 0b00110100, 0b00010010], .lsrAbsX 0x1234),
      ([0b00100110, 0b01011100], .rolZp 0x5C),
      ([0b00101010], .rolAcc),
      ([0b00101110, 0b00110100, 0b00010010], .rolAbs 0x1234),
      ([0b00110110, 0b01011100], .rolZpX 0x5C),
      ([0b00111110, 0b00110100, 0b00010010], .rolAbsX 0x1234),
      ([0b01100110, 0b01011100], .rorZp 0x5C),
      ([0b01101010], .rorAcc),
      ([0b01101110, 0b00110100, 0b00010010], .rorAbs 0x1234),
      ([0b01110110, 0b01011100], .rorZpX 0x5C),
      ([0b01111110, 0b00110100, 0b00010010], .rorAbsX 0x1234)] = true := by
  decide +kernel

theorem test_decode_control :
    decodesTo [
      ([0b00010000, 0b11111110], .bpl (-2)),
      ([0b00110000, 0b11111110], .bmi (-2)),
      ([0b01010000, 0b11111110], .bvc (-2)),
      ([0b01110000, 0b11111110], .bvs (-2)),
      ([0b10010000, 0b11111110], .bcc (-2)),
      ([0b10110000, 0b11111110], .bcs (-2)),
      ([0b11010000, 0b11111110], .bne (-2)),
      ([0b11110000, 0b11111110], .beq (-2)),
      ([0b01001100, 0b00110100, 0b00010010], .jmpAbs 0x1234),
      ([0b01101100, 0b00110100, 0b00010010], .jmpInd 0x1234),
      ([0b00100000, 0b00110100, 0b00010010], .jsr 0x1234),
      ([0b01100000], .rts)] = true := by
  decide +kernel

theorem test_decode_stack_flags_system :
    decodesTo [
      ([0b01001000], .pha),
      ([0b00001000], .php),
      ([0b01101000], .pla),
      ([0b00101000], .plp),
      ([0b00011000], .clc),
      ([0b11011000], .cld),
      ([0b01011000], .cli),
      ([0b10111000], .clv),
      ([0b00111000], .sec),
      ([0b11111000], .sed),
      ([0b01111000], .sei),
      ([0b11101010], .nop),
      ([0b00000000], .brk),
      ([0b01000000], .rti)] = true := by
  decide +kernel

/-- The host's numbering: the opcode byte in bits 7..0, the operand bytes above it. -/
theorem test_decodeTableWord :
    decodeTableWord 24 0x1234AD = some (.ldaAbs 0x1234) ∧ decodeTableWord 8 0xEA = some .nop ∧
    decodeTableWord 16 0xFEF0 = some (.beq (-2)) ∧ decodeTableWord 8 0x02 = none := by
  decide

/-! ### Single steps, with the results of spec/95 -/

/-- The state of 95's conventions: power-on, PC at 0x8000. -/
def rig : State := { State.reset with pc := 0x8000 }

/-- A state with these bytes of memory. -/
def holding (l : List (Word × Byte)) (s : State) : State :=
  l.foldl (fun s e => s.poke e.1 e.2) s

/-- Code placed from an address on. -/
def coded (at_ : Word) (code : List Byte) (s : State) : State :=
  holding ((List.range code.length).map (fun k => (at_ + address k, code.getD k 0))) { s with pc := at_ }

/-- One CPU step from code at an address: its cycle count and the state after it. -/
def run (irq : Bool) (at_ : Word) (code : List Byte) (s : State) : Nat × State :=
  match cpuStep irq (coded at_ code s) with
  | .next r => r
  | .fault _ | .refused _ => (999, s)

/-- 95 V-DEC1: NOP. -/
theorem test_nop :
    (let r := run false 0x8000 [0xEA] rig
     (r.2.pc, r.1)) =
    (0x8001, 2) := by
  decide +kernel

/-- 95 V-AM2: LDA zp,X wraps in page 0. -/
theorem test_lda_zpx_wraps :
    (let r := run false 0x8000 [0xB5, 0xFF] (holding [(0x0001, 0x44), (0x0101, 0x55)] { rig with x := 0x02 })
     (r.2.a, r.1)) =
    (0x44, 4) := by
  decide +kernel

/-- 95 V-AM6: LDA abs,X wraps at 0xFFFF. -/
theorem test_lda_absx_wraps :
    (let r := run false 0x8000 [0xBD, 0xFF, 0xFF] (holding [(0x0000, 0x33)] { rig with x := 0x01 })
     (r.2.a, r.1)) =
    (0x33, 5) := by
  decide +kernel

/-- 95 V-AM7: LDA abs,Y, no cross. -/
theorem test_lda_absy :
    (let r := run false 0x8000 [0xB9, 0x00, 0x02] (holding [(0x02FF, 0x10)] { rig with y := 0xFF })
     (r.2.a, r.1)) =
    (0x10, 4) := by
  decide +kernel

/-- 95 V-AM9: LDA (zp,X), pointer at 0xFF. -/
theorem test_lda_indx_pointer_wraps :
    (let r := run false 0x8000 [0xA1, 0xFE] (holding [(0x00FF, 0x10), (0x0000, 0x02), (0x0100, 0x07), (0x0210, 0x66)] { rig with x := 0x01 })
     (r.2.a, r.1)) =
    (0x66, 6) := by
  decide +kernel

/-- 95 V-AM11: LDA (zp),Y, page cross. -/
theorem test_lda_indy_crosses :
    (let r := run false 0x8000 [0xB1, 0x10] (holding [(0x0010, 0xF0), (0x0011, 0x02), (0x0310, 0x78)] { rig with y := 0x20 })
     (r.2.a, r.1)) =
    (0x78, 6) := by
  decide +kernel

/-- 95 V-AM12: LDA (zp),Y, pointer at 0xFF. -/
theorem test_lda_indy_pointer_wraps :
    (let r := run false 0x8000 [0xB1, 0xFF] (holding [(0x00FF, 0x34), (0x0000, 0x02), (0x0100, 0x07), (0x0234, 0x12)] { rig with y := 0x00 })
     (r.2.a, r.1)) =
    (0x12, 5) := by
  decide +kernel

/-- 95 V-LS1: LDA #0x80. -/
theorem test_lda_imm :
    (let r := run false 0x8000 [0xA9, 0x80] rig
     (r.2.a, r.2.p.n, r.2.p.z, r.1)) =
    (0x80, true, false, 2) := by
  decide +kernel

/-- 95 V-AM3: LDX zp,Y wraps in page 0. -/
theorem test_ldx_zpy_wraps :
    (let r := run false 0x8000 [0xB6, 0x80] (holding [(0x0010, 0x01)] { rig with y := 0x90 })
     (r.2.x, r.1)) =
    (0x01, 4) := by
  decide +kernel

/-- 95 V-LS2: LDX abs,Y across a page. -/
theorem test_ldx_absy_crosses :
    (let r := run false 0x8000 [0xBE, 0xF0, 0x02] (holding [(0x0310, 0x00)] { rig with y := 0x20 })
     (r.2.x, r.2.p.z, r.1)) =
    (0x00, true, 5) := by
  decide +kernel

/-- 95 V-LS3: LDY zp,X. -/
theorem test_ldy_zpx :
    (let r := run false 0x8000 [0xB4, 0x10] (holding [(0x0011, 0xFE)] { rig with x := 0x01 })
     (r.2.y, r.2.p.n, r.1)) =
    (0xFE, true, 4) := by
  decide +kernel

/-- 95 V-LS4: STA into a RAM mirror. -/
theorem test_sta_abs_mirror :
    (let r := run false 0x8000 [0x8D, 0x05, 0x08] { rig with a := 0xAB }
     (r.2.peek 0x0005, r.2.peek 0x0805, r.2.peek 0x1005, r.2.peek 0x1805, r.1)) =
    (some 0xAB, some 0xAB, some 0xAB, some 0xAB, 4) := by
  decide +kernel

/-- 95 V-LS5: STA abs,X across a page. -/
theorem test_sta_absx_no_extra_cycle :
    (let r := run false 0x8000 [0x9D, 0xFF, 0x02] { rig with a := 0x01, x := 0x01 }
     (r.2.peek 0x0300, r.1)) =
    (some 0x01, 5) := by
  decide +kernel

/-- 95 V-LS6: STA $2002 does not read. -/
theorem test_sta_status_does_not_read :
    (let r := run false 0x8000 [0x8D, 0x02, 0x20] { rig with a := 0x00, ppu := { rig.ppu with vblank := true } }
     (r.2.ppu.vblank, r.2.ppu.ob, r.1)) =
    (true, 0x00, 4) := by
  decide +kernel

/-- 95 V-LS7: STX zp,Y. -/
theorem test_stx_zpy :
    (let r := run false 0x8000 [0x96, 0xFF] { rig with x := 0x3C, y := 0x02 }
     (r.2.peek 0x0001, r.1)) =
    (some 0x3C, 4) := by
  decide +kernel

/-- 95 V-LS8: STY abs. -/
theorem test_sty_abs :
    (let r := run false 0x8000 [0x8C, 0x00, 0x60] { rig with y := 0x77 }
     (r.2.peek 0x6000, r.1)) =
    (some 0x77, 4) := by
  decide +kernel

/-- 95 V-LS9: TAX of 0. -/
theorem test_tax :
    (let r := run false 0x8000 [0xAA] { rig with a := 0x00, x := 0x05 }
     (r.2.x, r.2.p.z, r.2.p.n, r.1)) =
    (0x00, true, false, 2) := by
  decide +kernel

/-- 95 V-LS10: TAY. -/
theorem test_tay :
    (let r := run false 0x8000 [0xA8] { rig with a := 0x90 }
     (r.2.y, r.2.p.n, r.1)) =
    (0x90, true, 2) := by
  decide +kernel

/-- 95 V-LS11: TXA. -/
theorem test_txa :
    (let r := run false 0x8000 [0x8A] { rig with x := 0x01 }
     (r.2.a, r.2.p.z, r.2.p.n, r.1)) =
    (0x01, false, false, 2) := by
  decide +kernel

/-- 95 V-LS12: TYA. -/
theorem test_tya :
    (let r := run false 0x8000 [0x98] { rig with y := 0xFF }
     (r.2.a, r.2.p.n, r.1)) =
    (0xFF, true, 2) := by
  decide +kernel

/-- 95 V-LS13: TSX. -/
theorem test_tsx :
    (let r := run false 0x8000 [0xBA] { rig with sp := 0xFD }
     (r.2.x, r.2.p.n, r.1)) =
    (0xFD, true, 2) := by
  decide +kernel

/-- 95 V-LS14: TXS writes no flag. -/
theorem test_txs_no_flags :
    (let r := run false 0x8000 [0x9A] { rig with x := 0x00, p := { rig.p with z := false, n := true } }
     (r.2.sp, r.2.p.z, r.2.p.n, r.1)) =
    (0x00, false, true, 2) := by
  decide +kernel

/-- 95 V-ADC6: ADC #0xFF. -/
theorem test_adc_carry_in :
    (let r := run false 0x8000 [0x69, 0xFF] { rig with a := 0xFF, p := { rig.p with c := true } }
     ((r.2.a, r.2.p.n, r.2.p.v, r.2.p.z), (r.2.p.c, r.1))) =
    ((0xFF, true, false, false), (true, 2)) := by
  decide +kernel

/-- 95 V-ADC9: ADC ignores D. -/
theorem test_adc_ignores_d :
    (let r := run false 0x8000 [0x69, 0x01] { rig with a := 0x09, p := { rig.p with c := false, d := true } }
     (r.2.a, r.2.p.d, r.1)) =
    (0x0A, true, 2) := by
  decide +kernel

/-- 95 V-SBC2: SBC #0xB0. -/
theorem test_sbc_overflow :
    (let r := run false 0x8000 [0xE9, 0xB0] { rig with a := 0x50, p := { rig.p with c := true } }
     ((r.2.a, r.2.p.n, r.2.p.v, r.2.p.z), (r.2.p.c, r.1))) =
    ((0xA0, true, true, false), (false, 2)) := by
  decide +kernel

/-- 95 V-SBC6: SBC #0x00. -/
theorem test_sbc_borrow_in :
    (let r := run false 0x8000 [0xE9, 0x00] { rig with a := 0x00, p := { rig.p with c := false } }
     ((r.2.a, r.2.p.n, r.2.p.v, r.2.p.z), (r.2.p.c, r.1))) =
    ((0xFF, true, false, false), (false, 2)) := by
  decide +kernel

/-- 95 V-AND1: AND #. -/
theorem test_and :
    (let r := run false 0x8000 [0x29, 0x0F] { rig with a := 0xF0 }
     (r.2.a, r.2.p.z, r.2.p.n, r.1)) =
    (0x00, true, false, 2) := by
  decide +kernel

/-- 95 V-ORA1: ORA #. -/
theorem test_ora :
    (let r := run false 0x8000 [0x09, 0x80] { rig with a := 0x01 }
     (r.2.a, r.2.p.n, r.2.p.z, r.1)) =
    (0x81, true, false, 2) := by
  decide +kernel

/-- 95 V-EOR1: EOR # with itself. -/
theorem test_eor :
    (let r := run false 0x8000 [0x49, 0xA5] { rig with a := 0xA5 }
     (r.2.a, r.2.p.z, r.1)) =
    (0x00, true, 2) := by
  decide +kernel

/-- 95 V-BIT2: BIT abs. -/
theorem test_bit_abs :
    (let r := run false 0x8000 [0x2C, 0x00, 0x02] (holding [(0x0200, 0x3F)] { rig with a := 0xFF, p := { rig.p with v := true } })
     (r.2.p.z, r.2.p.n, r.2.p.v, r.1)) =
    (false, false, false, 4) := by
  decide +kernel

/-- 95 V-BIT3: BIT $2002 in vblank. -/
theorem test_bit_status :
    (let r := run false 0x8000 [0x2C, 0x02, 0x20] { rig with a := 0x00, ppu := { rig.ppu with vblank := true, ob := 0x1F } }
     ((r.2.p.n, r.2.p.z, r.2.p.v, r.2.ppu.vblank), (r.2.ppu.w, r.1))) =
    ((true, true, false, false), (false, 4)) := by
  decide +kernel

/-- 95 V-CMP4: CMP #0xFF. -/
theorem test_cmp_less :
    (let r := run false 0x8000 [0xC9, 0xFF] { rig with a := 0x00 }
     (r.2.p.z, r.2.p.c, r.2.p.n, r.2.a, r.1)) =
    (false, false, false, 0x00, 2) := by
  decide +kernel

/-- 95 V-CMP5: CMP #0x00. -/
theorem test_cmp_greater :
    (let r := run false 0x8000 [0xC9, 0x00] { rig with a := 0xFF }
     (r.2.p.z, r.2.p.c, r.2.p.n, r.2.a, r.1)) =
    (false, true, true, 0xFF, 2) := by
  decide +kernel

/-- 95 V-CPX1: CPX #. -/
theorem test_cpx :
    (let r := run false 0x8000 [0xE0, 0x05] { rig with x := 0x05 }
     (r.2.p.z, r.2.p.c, r.2.p.n, r.1)) =
    (true, true, false, 2) := by
  decide +kernel

/-- 95 V-CPY1: CPY zp. -/
theorem test_cpy :
    (let r := run false 0x8000 [0xC4, 0x10] (holding [(0x0010, 0x02)] { rig with y := 0x01, p := { rig.p with v := true } })
     (r.2.p.z, r.2.p.c, r.2.p.n, r.2.p.v, r.1)) =
    (false, false, true, true, 3) := by
  decide +kernel

/-- 95 V-INC1: INC zp wraps. -/
theorem test_inc_wraps :
    (let r := run false 0x8000 [0xE6, 0x10] (holding [(0x0010, 0xFF)] rig)
     (r.2.p.z, r.2.p.n, r.2.peek 0x0010, r.1)) =
    (true, false, some 0x00, 5) := by
  decide +kernel

/-- 95 V-INC3: INC on NROM ROM. -/
theorem test_inc_rom :
    (let r := run false 0x8000 [0xEE, 0x00, 0x80] (holding [(0x8000, 0xEE)] rig)
     (r.2.p.n, r.2.p.z, r.2.peek 0x8000, r.1)) =
    (true, false, some 0xEE, 6) := by
  decide +kernel

/-- 95 V-DEC1: DEC abs wraps. -/
theorem test_dec_wraps :
    (let r := run false 0x8000 [0xCE, 0x00, 0x02] (holding [(0x0200, 0x00)] rig)
     (r.2.p.n, r.2.peek 0x0200, r.1)) =
    (true, some 0xFF, 6) := by
  decide +kernel

/-- 95 V-INX1: INX wraps. -/
theorem test_inx :
    (let r := run false 0x8000 [0xE8] { rig with x := 0xFF }
     (r.2.x, r.2.p.z, r.1)) =
    (0x00, true, 2) := by
  decide +kernel

/-- 95 V-INY1: INY. -/
theorem test_iny :
    (let r := run false 0x8000 [0xC8] { rig with y := 0x7F }
     (r.2.y, r.2.p.n, r.1)) =
    (0x80, true, 2) := by
  decide +kernel

/-- 95 V-DEX1: DEX. -/
theorem test_dex :
    (let r := run false 0x8000 [0xCA] { rig with x := 0x01 }
     (r.2.x, r.2.p.z, r.1)) =
    (0x00, true, 2) := by
  decide +kernel

/-- 95 V-DEY1: DEY wraps. -/
theorem test_dey :
    (let r := run false 0x8000 [0x88] { rig with y := 0x00 }
     (r.2.y, r.2.p.n, r.2.p.z, r.1)) =
    (0xFF, true, false, 2) := by
  decide +kernel

/-- 95 V-SH1: ASL A. -/
theorem test_asl_acc :
    (let r := run false 0x8000 [0x0A] { rig with a := 0x81 }
     (r.2.a, r.2.p.c, r.2.p.n, r.2.p.z, r.1)) =
    (0x02, true, false, false, 2) := by
  decide +kernel

/-- 95 V-SH9: ASL abs,X across a page. -/
theorem test_asl_absx :
    (let r := run false 0x8000 [0x1E, 0xFF, 0x02] (holding [(0x0300, 0x40)] { rig with x := 0x01 })
     (r.2.p.n, r.2.p.c, r.2.peek 0x0300, r.1)) =
    (true, false, some 0x80, 7) := by
  decide +kernel

/-- 95 V-SH3: LSR zp. -/
theorem test_lsr_zp :
    (let r := run false 0x8000 [0x46, 0x10] (holding [(0x0010, 0x02)] rig)
     (r.2.p.c, r.2.p.n, r.2.peek 0x0010, r.1)) =
    (false, false, some 0x01, 5) := by
  decide +kernel

/-- 95 V-SH4: LSR A of 1. -/
theorem test_lsr_acc :
    (let r := run false 0x8000 [0x4A] { rig with a := 0x01 }
     (r.2.a, r.2.p.c, r.2.p.z, r.2.p.n, r.1)) =
    (0x00, true, true, false, 2) := by
  decide +kernel

/-- 95 V-SH5: ROL A. -/
theorem test_rol_acc :
    (let r := run false 0x8000 [0x2A] { rig with a := 0x40, p := { rig.p with c := true } }
     (r.2.a, r.2.p.c, r.2.p.n, r.1)) =
    (0x81, false, true, 2) := by
  decide +kernel

/-- 95 V-SH6: ROL A, carry out. -/
theorem test_rol_carry_out :
    (let r := run false 0x8000 [0x2A] { rig with a := 0x80, p := { rig.p with c := false } }
     (r.2.a, r.2.p.c, r.2.p.z, r.1)) =
    (0x00, true, true, 2) := by
  decide +kernel

/-- 95 V-SH7: ROR abs. -/
theorem test_ror_abs :
    (let r := run false 0x8000 [0x6E, 0x00, 0x03] (holding [(0x0300, 0x01)] { rig with p := { rig.p with c := true } })
     (r.2.p.c, r.2.p.n, r.2.peek 0x0300, r.1)) =
    (true, true, some 0x80, 6) := by
  decide +kernel

/-- 95 V-SH8: ROR A. -/
theorem test_ror_acc :
    (let r := run false 0x8000 [0x6A] { rig with a := 0x00, p := { rig.p with c := false } }
     (r.2.a, r.2.p.c, r.2.p.z, r.1)) =
    (0x00, false, true, 2) := by
  decide +kernel

/-- 95 V-BR1: BPL taken. -/
theorem test_bpl :
    (let r := run false 0x8000 [0x10, 0x02] { rig with p := { rig.p with n := false } }
     (r.2.pc, r.1)) =
    (0x8004, 3) := by
  decide +kernel

/-- 95 V-BR2: BMI not taken. -/
theorem test_bmi :
    (let r := run false 0x8000 [0x30, 0x02] { rig with p := { rig.p with n := false } }
     (r.2.pc, r.1)) =
    (0x8002, 2) := by
  decide +kernel

/-- 95 V-BR3: BVC to itself. -/
theorem test_bvc :
    (let r := run false 0x8000 [0x50, 0xFE] { rig with p := { rig.p with v := false } }
     (r.2.pc, r.1)) =
    (0x8000, 3) := by
  decide +kernel

/-- 95 V-BR4: BVS back 128 across a page. -/
theorem test_bvs :
    (let r := run false 0x8000 [0x70, 0x80] { rig with p := { rig.p with v := true } }
     (r.2.pc, r.1)) =
    (0x7F82, 4) := by
  decide +kernel

/-- 95 V-BR5: BCC forward 127. -/
theorem test_bcc :
    (let r := run false 0x8000 [0x90, 0x7F] { rig with p := { rig.p with c := false } }
     (r.2.pc, r.1)) =
    (0x8081, 3) := by
  decide +kernel

/-- 95 V-BR6: BCS offset 0 at a page end. -/
theorem test_bcs :
    (let r := run false 0x80FE [0xB0, 0x00] { rig with p := { rig.p with c := true } }
     (r.2.pc, r.1)) =
    (0x8100, 3) := by
  decide +kernel

/-- 95 V-BR7: BNE back. -/
theorem test_bne :
    (let r := run false 0x8000 [0xD0, 0xFC] { rig with p := { rig.p with z := false } }
     (r.2.pc, r.1)) =
    (0x7FFE, 4) := by
  decide +kernel

/-- 95 V-BR8: BNE not taken, target on another page. -/
theorem test_bne_not_taken :
    (let r := run false 0x8000 [0xD0, 0x80] { rig with p := { rig.p with z := true } }
     (r.2.pc, r.1)) =
    (0x8002, 2) := by
  decide +kernel

/-- 95 V-BR9: BEQ taken, page cross. -/
theorem test_beq :
    (let r := run false 0x80FD [0xF0, 0x01] { rig with p := { rig.p with z := true } }
     (r.2.pc, r.1)) =
    (0x8100, 4) := by
  decide +kernel

/-- 95 V-JMP1: JMP abs. -/
theorem test_jmp :
    (let r := run false 0x8000 [0x4C, 0x34, 0x12] rig
     (r.2.pc, r.1)) =
    (0x1234, 3) := by
  decide +kernel

/-- 95 V-JMP2: JMP (ind) page bug. -/
theorem test_jmp_page_bug :
    (let r := run false 0x8000 [0x6C, 0xFF, 0x02] (holding [(0x02FF, 0x34), (0x0200, 0x12), (0x0300, 0x56)] rig)
     (r.2.pc, r.1)) =
    (0x1234, 5) := by
  decide +kernel

/-- 95 V-JSR2: JSR with S = 0x00. -/
theorem test_jsr_stack_wraps :
    (let r := run false 0x8000 [0x20, 0x00, 0x90] { rig with sp := 0x00 }
     (r.2.sp, r.2.peek 0x0100, r.2.peek 0x01FF, r.1)) =
    (0xFE, some 0x80, some 0x02, 6) := by
  decide +kernel

/-- 95 V-RTS2: RTS of 0xFFFF. -/
theorem test_rts :
    (let r := run false 0x8000 [0x60] (holding [(0x01FE, 0xFF), (0x01FF, 0xFF)] { rig with sp := 0xFD })
     (r.2.pc, r.2.sp, r.1)) =
    (0x0000, 0xFF, 6) := by
  decide +kernel

/-- 95 V-ST2: PHA at S = 0x00. -/
theorem test_pha_wraps :
    (let r := run false 0x8000 [0x48] { rig with a := 0x42, sp := 0x00 }
     (r.2.sp, r.2.peek 0x0100, r.1)) =
    (0xFF, some 0x42, 3) := by
  decide +kernel

/-- 95 V-ST3: PHP. -/
theorem test_php :
    (let r := run false 0x8000 [0x08] { rig with p := { rig.p with c := true, i := false } }
     (r.2.sp, r.2.peek 0x01FD, r.1)) =
    (0xFC, some 0x31, 3) := by
  decide +kernel

/-- 95 V-ST4: PLA. -/
theorem test_pla :
    (let r := run false 0x8000 [0x68] (holding [(0x01FD, 0x00)] { rig with sp := 0xFC })
     (r.2.a, r.2.p.z, r.2.p.n, r.2.sp, r.1)) =
    (0x00, true, false, 0xFD, 4) := by
  decide +kernel

/-- 95 V-ST5: PLP of 0xFF. -/
theorem test_plp :
    (let r := run false 0x8000 [0x28] (holding [(0x01FD, 0xFF)] { rig with sp := 0xFC })
     ((r.2.p.n, r.2.p.v, r.2.p.d, r.2.p.i), (r.2.p.z, r.2.p.c, r.2.p.toByte false, r.2.sp, r.1))) =
    ((true, true, true, true), (true, true, 0xEF, 0xFD, 4)) := by
  decide +kernel

/-- 95 V-FL1: CLC. -/
theorem test_clc :
    (let r := run false 0x8000 [0x18] { rig with p := { rig.p with c := true } }
     (r.2.p.c, r.2.pc, r.1)) =
    (false, 0x8001, 2) := by
  decide +kernel

/-- 95 V-FL2: CLD. -/
theorem test_cld :
    (let r := run false 0x8000 [0xD8] { rig with p := { rig.p with d := true } }
     (r.2.p.d, r.2.pc, r.1)) =
    (false, 0x8001, 2) := by
  decide +kernel

/-- 95 V-FL3: CLI. -/
theorem test_cli :
    (let r := run false 0x8000 [0x58] { rig with p := { rig.p with i := true } }
     (r.2.p.i, r.2.pc, r.1)) =
    (false, 0x8001, 2) := by
  decide +kernel

/-- 95 V-FL4: CLV. -/
theorem test_clv :
    (let r := run false 0x8000 [0xB8] { rig with p := { rig.p with v := true } }
     (r.2.p.v, r.2.pc, r.1)) =
    (false, 0x8001, 2) := by
  decide +kernel

/-- 95 V-FL5: SEC. -/
theorem test_sec :
    (let r := run false 0x8000 [0x38] { rig with p := { rig.p with c := false } }
     (r.2.p.c, r.2.pc, r.1)) =
    (true, 0x8001, 2) := by
  decide +kernel

/-- 95 V-FL6: SED. -/
theorem test_sed :
    (let r := run false 0x8000 [0xF8] { rig with p := { rig.p with d := false } }
     (r.2.p.d, r.2.pc, r.1)) =
    (true, 0x8001, 2) := by
  decide +kernel

/-- 95 V-FL7: SEI. -/
theorem test_sei :
    (let r := run false 0x8000 [0x78] { rig with p := { rig.p with i := false } }
     (r.2.p.i, r.2.pc, r.1)) =
    (true, 0x8001, 2) := by
  decide +kernel

/-- 95 V-SYS1: BRK. -/
theorem test_brk :
    (let r := run false 0x8000 [0x00] (holding [(0xFFFE, 0x00), (0xFFFF, 0x90)] { rig with sp := 0xFD, p := { rig.p with c := true, i := false } })
     ((r.2.sp, r.2.p.i, r.2.pc, r.2.peek 0x01FD), (r.2.peek 0x01FC, r.2.peek 0x01FB, r.1))) =
    ((0xFA, true, 0x9000, some 0x80), (some 0x02, some 0x31, 7)) := by
  decide +kernel

/-- 95 V-SYS3: BRK at S = 0x01. -/
theorem test_brk_stack_wraps :
    (let r := run false 0x8000 [0x00] (holding [(0xFFFE, 0x00), (0xFFFF, 0x90)] { rig with sp := 0x01 })
     (r.2.sp, r.2.peek 0x0101, r.2.peek 0x0100, r.2.peek 0x01FF, r.1)) =
    (0xFE, some 0x80, some 0x02, some 0x34, 7) := by
  decide +kernel

/-- 95 V-SYS4: RTI. -/
theorem test_rti :
    (let r := run false 0x8000 [0x40] (holding [(0x01FB, 0x31), (0x01FC, 0x02), (0x01FD, 0x80)] { rig with sp := 0xFA })
     ((r.2.pc, r.2.sp, r.2.p.c, r.2.p.i), (r.2.p.toByte false, r.1))) =
    ((0x8002, 0xFD, true, false), (0x21, 6)) := by
  decide +kernel

/-- 95 V-INT1: NMI entry. -/
theorem test_nmi_entry :
    (let r := run false 0x8000 [0xEA] (holding [(0xFFFA, 0x00), (0xFFFB, 0xA0)] { rig with sp := 0xFD, nmiPending := true, p := { rig.p with c := true, i := false } })
     ((r.2.pc, r.2.sp, r.2.p.i, r.2.peek 0x01FD), (r.2.peek 0x01FC, r.2.peek 0x01FB, r.2.nmiPending, r.1))) =
    ((0xA000, 0xFA, true, some 0x80), (some 0x00, some 0x21, false, 7)) := by
  decide +kernel

/-- 95 V-INT3: IRQ taken. -/
theorem test_irq_entry :
    (let r := run true 0x8000 [0xEA] (holding [(0xFFFE, 0x00), (0xFFFF, 0x90)] { rig with p := { rig.p with i := false } })
     (r.2.pc, r.2.p.i, r.2.peek 0x01FB, r.1)) =
    (0x9000, true, some 0x20, 7) := by
  decide +kernel

/-- 95 V-INT4: IRQ masked. -/
theorem test_irq_masked :
    (let r := run true 0x8000 [0xEA] { rig with p := { rig.p with i := true } }
     (r.2.pc, r.1)) =
    (0x8001, 2) := by
  decide +kernel

/-- 95 V-INT5: NMI before IRQ. -/
theorem test_nmi_before_irq :
    (let r := run true 0x8000 [0xEA] (holding [(0xFFFA, 0x00), (0xFFFB, 0xA0), (0xFFFE, 0x00), (0xFFFF, 0x90)] { rig with nmiPending := true, p := { rig.p with i := false } })
     (r.2.pc, r.2.p.i, r.1)) =
    (0xA000, true, 7) := by
  decide +kernel

/-- 95 V-INT7: a $2002 read drops `nmi_out`. -/
theorem test_status_read_lowers_nmi_out :
    (let r := run false 0x8000 [0xAD, 0x02, 0x20] { rig with nmiPending := false, ppu := { rig.ppu with vblank := true, ctrl := 0x80, nmiOut := true, ob := 0x00 } }
     (r.2.a, r.2.ppu.vblank, r.2.ppu.nmiOut, r.2.nmiPending, r.1)) =
    (0x80, false, false, false, 4) := by
  decide +kernel


/-! ### Devices, with the results of spec/95 -/

/-- V-BUS1, V-BUS2: RAM mirrors, and two writes of $2006 through two of its addresses. -/
theorem test_bus_mirrors :
    (let s := memWrite 0x0001 0x11 rig
     ((memRead 0x0801 s).1, (memRead 0x1801 s).1)) = (0x11, 0x11) ∧
    (let s := memWrite 0x2006 0x00 (memWrite 0x3FFE 0x3F rig)
     (s.ppu.v, s.ppu.w)) = (0x3F00, false) := by
  decide +kernel

/-- V-BUS5: the 16 KiB bank of a small NROM cartridge appears twice. -/
theorem test_nrom_mirrors_its_bank :
    (let c := { Cartridge.blank with prgBanks := 1, prg := [(0, 0xAB)] }
     (c.read 0x8000, c.read 0xC000)) = (0xAB, 0xAB) := by
  decide +kernel

/-- The MMC1 cartridge of V-MMC1: 128 KiB, byte 0xB0 + k first in bank k. -/
def mmc1Cart : Cartridge :=
  { Cartridge.blank with
    mapper := 1
    prgBanks := 8
    prg := (List.range 8).map (fun k => (k * 0x4000, byte (0xB0 + k))) }

/-- V-MMC1: the power-on banks, and PRG bank 5 loaded through the serial port. -/
theorem test_mmc1_loads_prg_bank :
    (let c := [1, 0, 1, 0, 0].foldl (fun c v => c.write 0xE000 v) mmc1Cart
     (mmc1Cart.read 0x8000, mmc1Cart.read 0xC000, c.mmc1.prgBank, c.read 0x8000, c.read 0xC000)) =
    (0xB0, 0xB7, 0x05, 0xB5, 0xB7) := by
  decide +kernel

/-- V-DMA1, V-DMA2: a copied page with its attribute bytes masked, and the stall of the hardware's timing. -/
theorem test_oam_dma :
    (let ram := (List.range 255).map (fun k => (0x201 + k, byte (k + 1)))
     let s := memWrite 0x4014 0x02 { rig with ram := ram }
     (s.ppu.oam.read 5, s.ppu.oam.read 6, s.ppu.oam.read 0xFE, s.ppu.oamAddr, s.dmaStall)) =
    (0x05, 0x02, 0xE2, 0x00, 0) ∧
    (let s := { rig with oamDmaStall := .hardware }
     ((run false 0x8000 [0x8D, 0x14, 0x40] s).1,
      (run false 0x8000 [0x8D, 0x14, 0x40] { s with totalCycles := 1 }).1)) = (517, 518) := by
  decide +kernel

/-- V-PPU1, V-PPU2: the status read, and the two halves of $2005. -/
theorem test_ppu_status_and_scroll :
    (let r := memRead 0x2002 { rig with ppu := { rig.ppu with vblank := true, ob := 0x1F, w := true } }
     (r.1, r.2.ppu.vblank, r.2.ppu.w, r.2.ppu.ob)) = (0x9F, false, false, 0x9F) ∧
    (let s := memWrite 0x2005 0x5E (memWrite 0x2005 0x7D rig)
     (s.ppu.t, s.ppu.fineX, s.ppu.w, s.ppu.v)) = (0x616F, 5, false, 0) := by
  decide +kernel

/-- V-PPU6: $2007 writes, then reads through the buffer. -/
theorem test_ppu_data_port_is_buffered :
    (let v := { rig with ppu := { rig.ppu with v := 0x2000 } }
     let s := memWrite 0x2007 0x42 (memWrite 0x2007 0x41 v)
     let r1 := memRead 0x2007 { s with ppu := { s.ppu with v := 0x2000 } }
     let r2 := memRead 0x2007 r1.2
     let r3 := memRead 0x2007 r2.2
     (r1.1, r2.1, r3.1, r3.2.ppu.v)) = (0x00, 0x41, 0x42, 0x2003) := by
  decide +kernel

/-- V-PPU8, V-PPU10, V-PPU11: a palette alias, horizontal mirroring, and the attribute mask of OAM. -/
theorem test_ppu_memories :
    (let s := ppuWrite 0x3F10 0xCF { rig with ppu := { rig.ppu with v := 0x3F00, ob := 0xC0 } }
     (s.ppu.palette.read 0, (memRead 0x2007 s).1)) = (0x0F, 0xCF) ∧
    (let s := ppuWrite 0x2005 0x66 rig
     (ppuRead 0x2405 s, ppuRead 0x2805 s)) = (0x66, 0x00) ∧
    (let s := memWrite 0x2004 0xFF (memWrite 0x2003 0x02 rig)
     (s.ppu.oam.read 2, s.ppu.oamAddr)) = (0xE3, 3) := by
  decide +kernel

/-- 60 R266, R268 by hand: tile 1's row 0 is 0x80 over 0x00 in both pattern tables, so its first column is colour 1 of
the palette that the attribute byte 0x02 gives the first quadrant; a sprite of that tile flipped horizontally shows it
in its last column. -/
theorem test_background_and_sprite_pixels :
    (let u := { rig.ppu with
       mask := 0x1E, vram := [(0, 1), (0x3C0, 2)], oam := [(1, 1), (2, 0x41), (3, 8)] }
     let s := { rig with cart := { rig.cart with chr := [(0x10, 0x80)] }, ppu := u }
     let s := s.setPpu (s.ppu.evaluateSprites 1)
     ((bgPixel 0 s).pix, (bgPixel 0 s).pal, (bgPixel 1 s).pix, (spritePixel 15 1 s).map (fun p => (p.pix, p.pal)),
      (spritePixel 8 1 s).isNone)) = (1, 2, 0, some (1, 1), true) := by
  decide +kernel

/-- The bits 0 of reads of a port, in order. -/
def portBits : Nat → Pads → List Bool
  | 0, _ => []
  | n + 1, d => d.read1.1 :: portBits n d.read1.2

/-- V-CTL1, V-CTL2: A and Start come out in order and then 1s; while the strobe is 1 every read gives A. -/
theorem test_controller_reads :
    portBits 9 (((Pads.powerOn.setButtons 0x09).writeStrobe 1).writeStrobe 0) =
      [true, false, false, true, false, false, false, false, true] ∧
    portBits 3 ((Pads.powerOn.setButtons 0x01).writeStrobe 1) = [true, true, true] := by
  decide +kernel

/-- V-TIM1: one system step of NOP counts 2 cycles and 6 PPU cycles. -/
theorem test_system_step_of_nop :
    (match step (rig.withFetchWord 8 0xEA) with
     | .next t => (t.pc, t.totalCycles, t.ppu.scanline, t.ppu.cycle)
     | .fault _ | .refused _ => (0, 0, 0, 0)) = (0x8001, 2, -1, 6) := by
  decide +kernel

/-- V-DEC4: the byte 0x02 records the fault, with PC one past it and no cycle counted. -/
theorem test_invalid_byte_records_the_fault :
    (match step (coded 0x8000 [0x02] rig) with
     | .next t => (t.fault, t.pc, t.totalCycles)
     | .fault _ | .refused _ => (none, 0, 0)) = (some (.unimplementedOpcode 0x02 0x8000), 0x8001, 0) := by
  decide +kernel

/-! ### Witnesses: states and operands that meet the hypotheses of each statement -/

theorem test_cart_inv : rig.cart.Inv := ⟨by decide, by decide +kernel, by decide +kernel, by decide +kernel, by decide⟩

theorem test_ppu_inv : rig.ppu.Inv :=
  ⟨by decide +kernel, by decide +kernel, by decide +kernel, by decide +kernel, by decide +kernel, by decide +kernel,
    by decide, by decide, by decide, by decide, by decide +kernel, by decide, by decide, by decide⟩

theorem test_pads_inv : rig.pads.Inv := ⟨by decide, by decide, by decide⟩

/-- The invariant of `rig`: the hypothesis of every statement that has only `s.Inv`. -/
theorem test_rig_inv : rig.Inv := ⟨by decide, test_cart_inv, test_ppu_inv, test_pads_inv⟩

/-- `rig` with another PPU that meets the invariant meets it too. -/
theorem test_rig_with_ppu (u : Ppu) (h : u.Inv) : ({ rig with ppu := u } : State).Inv :=
  ⟨test_rig_inv.ram, test_cart_inv, h, test_pads_inv⟩

/-- Whether a step goes on. -/
def goesOn (s : State) : Bool :=
  match step s with
  | .next _ => true
  | .fault _ | .refused _ => false

theorem goesOn_next {s : State} (h : goesOn s = true) : ∃ t, step s = .next t := by
  unfold goesOn at h
  split at h
  · exact ⟨_, ‹_›⟩
  · cases h
  · cases h

theorem test_witness_DecodeInvertsEncode :
    (Instr.beq (-128)).wellFormed = true ∧ (Instr.beq 127).wellFormed = true ∧ (Instr.jsr 0xFFFF).wellFormed = true := by
  decide

theorem test_witness_EncodeInvertsDecode :
    decode [0xF0, 0x80, 0x55] = .ok (.beq (-128), [0x55]) ∧ decode [0x20, 0xFF, 0xFF] = .ok (.jsr 0xFFFF, []) :=
  ⟨rfl, rfl⟩

theorem test_witness_StepRunsDecodedInstruction :
    (Instr.jsr 0x9000).wellFormed = true ∧ (∃ row, table (Instr.jsr 0x9000).opcode = some row) ∧
    RunsInstruction (coded 0x8000 [0x20, 0x00, 0x90] rig) ∧
    CodeAtPc (coded 0x8000 [0x20, 0x00, 0x90] rig) (encode (.jsr 0x9000)) := by
  refine ⟨rfl, ⟨_, rfl⟩, ⟨by decide +kernel, by decide +kernel, .inl (by decide +kernel)⟩, ?_⟩
  unfold CodeAtPc
  decide +kernel

theorem test_witness_UnimplementedOpcodeStopsTheMachine :
    RunsInstruction (coded 0x8000 [0x02] rig) ∧
    (memRead 0x8000 (polled (coded 0x8000 [0x02] rig))).1.toNat ∈ invalidBytes ∧
    (0xFF : Byte).toNat ∈ invalidBytes ∧
    { rig with fault := some (.unimplementedOpcode 0x02 0x8000) }.fault = some (.unimplementedOpcode 0x02 0x8000) :=
  ⟨⟨by decide +kernel, by decide +kernel, .inl (by decide +kernel)⟩, by decide +kernel, by decide, rfl⟩

theorem test_witness_NmiEntryFollowsItsRule :
    let s := { rig with nmiPending := true }
    s.fault = none ∧ s.nmiPending = true ∧ s.Inv :=
  ⟨rfl, rfl, ⟨by decide, test_cart_inv, test_ppu_inv, test_pads_inv⟩⟩

theorem test_witness_IrqEntryFollowsItsRule :
    let s := { rig with irqIn := [true], p := { rig.p with i := false } }
    s.fault = none ∧ s.nmiPending = false ∧ s.irqLevel = true ∧ s.p.i = false ∧ s.Inv :=
  ⟨rfl, rfl, rfl, rfl, ⟨by decide, test_cart_inv, test_ppu_inv, test_pads_inv⟩⟩

theorem test_witness_MaskedIrqMakesNoDifference :
    rig.p.i = true ∧ { rig with nmiPending := true, p := { rig.p with i := false } }.nmiPending = true :=
  ⟨rfl, rfl⟩

theorem test_witness_BranchesFollowTheirFlag :
    (-128 : Int) ≤ -128 ∧ (-128 : Int) ≤ 127 ∧ (127 : Int) ≤ 127 := by
  decide

theorem test_witness_OnlyNamedInstructionsWrite :
    (∃ t, exec (.ldaImm 0x80) rig = .next t ∧ t.a ≠ rig.a ∧ t.p.n ≠ rig.p.n) ∧
    (∃ t, exec (.ldxImm 0) rig = .next t ∧ t.p.z ≠ rig.p.z) ∧ (∃ t, exec .inx rig = .next t ∧ t.x ≠ rig.x) ∧
    (∃ t, exec .dey rig = .next t ∧ t.y ≠ rig.y) ∧ (∃ t, exec .pha rig = .next t ∧ t.sp ≠ rig.sp) ∧
    (∃ t, exec .sec rig = .next t ∧ t.p.c ≠ rig.p.c) ∧ (∃ t, exec .cli rig = .next t ∧ t.p.i ≠ rig.p.i) ∧
    (∃ t, exec .sed rig = .next t ∧ t.p.d ≠ rig.p.d) ∧
    (∃ t, exec .clv { rig with p := { rig.p with v := true } } = .next t ∧ t.p.v ≠ true) := by
  exact ⟨⟨_, rfl, by decide +kernel, by decide +kernel⟩, ⟨_, rfl, by decide +kernel⟩, ⟨_, rfl, by decide +kernel⟩,
    ⟨_, rfl, by decide +kernel⟩, ⟨_, rfl, by decide +kernel⟩, ⟨_, rfl, by decide +kernel⟩, ⟨_, rfl, by decide +kernel⟩,
    ⟨_, rfl, by decide +kernel⟩, ⟨_, rfl, by decide +kernel⟩⟩

theorem test_witness_BusDecodesEveryAddress :
    (0x1FFF : Word).toNat < 0x2000 ∧ Selects 0 0x2000 ∧ Selects 7 0x3FFF ∧
    (0x4000 ≤ (0x4013 : Word).toNat ∧ (0x4013 : Word).toNat ≤ 0x4013) ∧
    (0x4018 ≤ (0x4018 : Word).toNat ∧ (0x5FFF : Word).toNat < 0x6000) ∧
    (0x6000 ≤ (0x6000 : Word).toNat ∧ (0x7FFF : Word).toNat < 0x8000 ∧ rig.cart.hasPrgRam = true ∧
      { rig.cart with hasPrgRam := false }.hasPrgRam = false) ∧
    0x8000 ≤ (0x8000 : Word).toNat := by
  unfold Selects; decide

theorem test_witness_RamReadsBackAtEveryMirror :
    rig.Inv ∧ (0x1FFF : Word).toNat < 0x2000 ∧ (0x07FF : Word).toNat < 0x2000 ∧
    (0x1FFF : Word).toNat % 0x800 = (0x07FF : Word).toNat % 0x800 ∧
    (0x1FFF : Word).toNat % 0x800 ≠ (0x0000 : Word).toNat % 0x800 :=
  ⟨test_rig_inv, by decide⟩

theorem test_witness_ReadsHaveOnlyTheirSideEffects :
    ¬ (0x2000 ≤ (0x1FFF : Word).toNat ∧ (0x1FFF : Word).toNat < 0x4000) ∧
    ¬ (0x2000 ≤ (0x4000 : Word).toNat ∧ (0x4000 : Word).toNat < 0x4000) ∧
    (0x4015 : Word).toNat ≠ 0x4016 ∧ (0x4018 : Word).toNat ≠ 0x4017 := by
  decide

theorem test_witness_NromIsFixed :
    Cartridge.blank.mapper ≠ 1 ∧ { Cartridge.blank with mapper := 255 }.mapper ≠ 1 := by
  decide

theorem test_witness_Mmc1SerialPortLoads :
    (0x80 : Byte).getLsbD 7 = true ∧ Mmc1.powerOn.shiftCount = 0 ∧
    (∀ v ∈ ([1, 0, 1, 0, 0x7F] : List Byte), v.getLsbD 7 = false) := by
  decide

theorem test_witness_Mmc1BanksFollowItsRegisters :
    mmc1Cart.mapper = 1 ∧ mmc1Cart.Inv ∧ { mmc1Cart with mmc1 := { mmc1Cart.mmc1 with control := 0x1B } }.Inv :=
  ⟨rfl, ⟨by decide, by decide +kernel, by decide +kernel, by decide +kernel, by decide⟩,
    ⟨by decide, by decide +kernel, by decide +kernel, by decide +kernel, by decide⟩⟩

theorem test_witness_RomNeverChanges :
    let s := { rig with cart := { rig.cart with chrBanks := 1 } }
    0 < s.cart.chrBanks ∧ ∃ t, step s = .next t :=
  ⟨by decide, goesOn_next (by decide +kernel)⟩

/-- A one-bank file with a trainer's flag clear. -/
def smallFile : List Byte :=
  [0x4E, 0x45, 0x53, 0x1A, 1, 0, 0x03, 0x10, 0, 0, 0, 0, 0, 0, 0, 0] ++ List.replicate 16384 0xEA

theorem test_witness_LoadReadsTheHeader :
    smallFile.take 4 = [0x4E, 0x45, 0x53, 0x1A] ∧ 16 ≤ smallFile.length ∧
    16 + 1 * 16384 + 0 * 8192 ≤ smallFile.length ∧ (smallFile.getD 4 0).toNat = 1 ∧
    (smallFile.getD 5 0).toNat = 0 ∧ (smallFile.getD 6 0).toNat.testBit 2 = false ∧
    ([] : List Byte).take 4 ≠ [0x4E, 0x45, 0x53, 0x1A] ∧ OpenMemoriesFit .zero := by
  have hl : smallFile.length = 16 + 16384 := by
    unfold smallFile
    rw [List.length_append, List.length_replicate]
    rfl
  refine ⟨rfl, by omega, by omega, rfl, rfl, rfl, by decide, ?_⟩
  exact ⟨by decide, by decide, by decide, by decide, by decide, by decide, by decide⟩

theorem test_witness_PpuMemoryMap :
    rig.Inv ∧ (0x1FFF : Word).toNat % 0x4000 < 0x2000 ∧
    (0x2000 ≤ (0x2000 : Word).toNat % 0x4000 ∧ (0x3EFF : Word).toNat % 0x4000 < 0x3F00) ∧
    0x3F00 ≤ (0x3F00 : Word).toNat % 0x4000 ∧ 0x3F00 ≤ (0xFFFF : Word).toNat % 0x4000 :=
  ⟨test_rig_inv, by decide⟩

/-- The hypotheses of the statements about single PPU registers, at both ends of the window. -/
theorem test_witness_ppu_registers :
    rig.Inv ∧ Selects 0 0x2000 ∧ Selects 0 0x3FF8 ∧ Selects 1 0x2001 ∧ Selects 2 0x2002 ∧ Selects 2 0x3FFA ∧
    Selects 3 0x2003 ∧ Selects 4 0x2004 ∧ Selects 5 0x2005 ∧ Selects 6 0x2006 ∧ Selects 7 0x2007 ∧ Selects 7 0x3FFF ∧
    rig.ppu.w = false := by
  refine ⟨test_rig_inv, ?_⟩
  unfold Selects
  decide

/-- Both values of the toggle, at the first and the last address of each of the two registers. -/
theorem test_witness_ScrollAndAddressWrites :
    (let s := { rig with ppu := { rig.ppu with w := true } }
     s.Inv ∧ s.ppu.w = true) ∧
    (rig.Inv ∧ rig.ppu.w = false) ∧ Selects 5 0x2005 ∧ Selects 5 0x3FFD ∧ Selects 6 0x2006 ∧ Selects 6 0x3FFE := by
  refine ⟨⟨test_rig_with_ppu _ { test_ppu_inv with }, rfl⟩, ⟨test_rig_inv, rfl⟩, ?_⟩
  unfold Selects
  decide

theorem test_witness_DataPort :
    (address (({ rig.ppu with v := 0x3EFF } : Ppu).v.toNat % 0x4000)).toNat < 0x3F00 ∧
    0x3F00 ≤ (address (({ rig.ppu with v := 0x7F00 } : Ppu).v.toNat % 0x4000)).toNat := by
  decide

theorem test_witness_OpenBusBitsDecay :
    rig.ppu.timersInRange = true ∧ rig.ppu.decayed = true ∧
    ({ rig.ppu with ob := 0xFF } : Ppu).decayed = true := by
  decide +kernel

/-- `rig` at another position of the frame, with this mask, meets the invariant. -/
theorem test_rig_at (mask : Byte) (line : Int) (cycle : Nat) (h : -1 ≤ line ∧ line ≤ 260 ∧ cycle ≤ 340) :
    ({ rig with ppu := { rig.ppu with mask := mask, scanline := line, cycle := cycle } } : State).Inv :=
  test_rig_with_ppu _ { test_ppu_inv with scanlineLow := h.1, scanlineHigh := h.2.1, cycle := h.2.2 }

/-- The two cycles that set and clear vblank, cycles next to them, and the first cycle of a frame. -/
theorem test_witness_VblankIsSetOncePerFrame :
    (∀ e ∈ ([(241, 1), (-1, 1), (241, 0), (-1, 2), (240, 1), (260, 340)] : List (Int × Nat)),
      ({ rig with ppu := { rig.ppu with mask := 0, scanline := e.1, cycle := e.2 } } : State).Inv) ∧
    (let s := { rig with ppu := { rig.ppu with ctrl := 0x80, scanline := 241, cycle := 1 } }
     s.Inv ∧ s.ppu.ctrl.getLsbD 7 = true ∧ s.ppu.vblank = false) ∧
    (rig.Inv ∧ rig.ppu.scanline = -1 ∧ rig.ppu.cycle = 0 ∧ rig.ppu.vblank = false) := by
  refine ⟨fun e h => test_rig_at 0 e.1 e.2 ?_, ⟨test_rig_with_ppu _ ?_, by decide, rfl⟩, test_rig_inv, rfl, rfl, rfl⟩
  · revert e; decide
  · exact { test_ppu_inv with scanlineLow := by decide, scanlineHigh := by decide, cycle := by decide, nmiOut := by decide }

theorem test_witness_PpuStepsTouchOnlyThePpu :
    { rig with nmiPending := true }.nmiPending = true ∧ rig.ppu.rendering = false :=
  ⟨rfl, rfl⟩

/-- The first and last lines of each kind, at the first and last cycles of each event and next to them. -/
theorem test_witness_RenderingFollowsTheScanline :
    ∀ line ∈ ([-1, 0, 239, 240, 260] : List Int),
      ∀ cycle ∈ ([0, 1, 8, 64, 65, 66, 248, 256, 257, 258, 279, 280, 304, 305, 340] : List Nat),
        let s := { rig with ppu := { rig.ppu with mask := 0x08, scanline := line, cycle := cycle } }
        s.Inv ∧ s.ppu.rendering = true := by
  intro line h cycle hc
  have hl : -1 ≤ line ∧ line ≤ 260 := by revert line; decide
  have hk : cycle ≤ 340 := by revert cycle; decide
  exact ⟨test_rig_at 0x08 line cycle ⟨hl.1, hl.2, hk⟩, by simp [Ppu.rendering]⟩

/-- The cases of the sprite pixel: the layer off, the left columns clipped or shown, and an entry whose opaque last
column is shown. The entry stands at column 248 of line 239, flipped both ways, 16 rows high, tile 1 of the table at
0x1000. -/
theorem test_witness_SpritesFollowTheirLoops :
    rig.ppu.mask.getLsbD 4 = false ∧
    (({ rig.ppu with mask := 0x10 } : Ppu).mask.getLsbD 4 = true ∧ 7 < 8 ∧
      ({ rig.ppu with mask := 0x10 } : Ppu).mask.getLsbD 2 = false) ∧
    (let u := { rig.ppu with ctrl := 0x20, mask := 0x14, secondary := [⟨3, 223, 1, 0xC1, 248⟩] }
     let s := { rig with cart := { rig.cart with chr := [(0x1008, 0x80)] }, ppu := u }
     (spritePixel 255 239 s).map (fun p => (p.pix, p.pal, p.behind, p.index)) = some (2, 1, false, 3)) := by
  decide +kernel

theorem test_witness_BackgroundPixelReadsItsTile :
    let s := { rig with ppu := { rig.ppu with v := 0x77BF, mask := 0x0A, fineX := 7 } }
    s.ppu.v = loopy 31 29 1 7 ∧ rig.ppu.v = loopy 0 0 0 0 ∧ s.ppu.mask.getLsbD 3 = true ∧ s.ppu.mask.getLsbD 1 = true ∧
    rig.ppu.mask.getLsbD 3 = false ∧ (({ rig.ppu with mask := 0x08 } : Ppu).mask.getLsbD 1 = false ∧ 7 < 8) := by
  decide +kernel

theorem test_witness_PixelsResolveByPriority :
    spritePixel 0 0 rig = none ∧ (bgPixel 0 rig).pix = 0 := by
  decide +kernel

theorem test_witness_ControllerReadsShiftOutTheButtons :
    (1 : Byte).getLsbD 0 = true ∧ (0xFE : Byte).getLsbD 0 = false ∧ rig.Inv :=
  ⟨by decide, by decide, test_rig_inv⟩

theorem test_witness_PowerOnValues :
    1 ≤ Cartridge.blank.prgBanks ∧ 0 < { Cartridge.blank with chrBanks := 1 }.chrBanks := by
  decide

/-- For the two invariants that every step keeps: a state that meets both, and whose step goes on. -/
theorem test_witness_EveryStepKeeps :
    rig.Inv ∧ rig.ppu.position = 3 * rig.totalCycles % 89342 ∧ ∃ t, step rig = .next t :=
  ⟨test_rig_inv, by decide, goesOn_next (by decide +kernel)⟩

theorem test_witness_IdleLoopGoesOn :
    let s := coded 0x8000 [0x4C, 0x00, 0x80] rig
    s.IdleLoop ∧ s.p.i = true :=
  ⟨⟨by decide +kernel, by decide +kernel, by decide +kernel, by decide +kernel, by decide +kernel, by decide +kernel,
    .inr (by decide +kernel)⟩, by decide +kernel⟩

end

end Sys2Proof.Tests
end

section
/-! What a push leaves on the stack, and what the pull that answers it gives (40 R124). -/

namespace Sys2Proof.Claims

open Sys2Proof.Machine

/-- The address of the stack byte that S names. -/
theorem address_slot (sp : Byte) : address (slot sp) = stackAddr sp := by
  have := sp.isLt
  apply BitVec.eq_of_toNat_eq
  rw [stackAddr_toNat, address, slot, BitVec.toNat_ofNat]
  omega

@[simp] theorem push_sp (v : Byte) (s : State) : (push v s).sp = s.sp - 1 := by rw [push_eq]; rfl
@[simp] theorem push_cart (v : Byte) (s : State) : (push v s).cart = s.cart := by rw [push_eq]; rfl

/-- The byte that a push left at S. -/
theorem push_read {s : State} (v : Byte) (hr : s.ram.wf 0x800 = true) : (push v s).ram.read (slot s.sp) = v := by
  rw [push_eq]
  exact Mem.read_write_self _ _ _ (Mem.wfFrom_exists hr)

/-- A push leaves the other slots. -/
theorem push_read_ne {s : State} {sp : Byte} (v : Byte) (hr : s.ram.wf 0x800 = true) (h : sp ≠ s.sp) :
    (push v s).ram.read (slot sp) = s.ram.read (slot sp) := by
  have hslot : slot sp ≠ slot s.sp := fun e => h (BitVec.eq_of_toNat_eq (Nat.add_left_cancel e))
  rw [push_eq]
  exact Mem.read_write_ne _ _ _ _ (Mem.wfFrom_exists hr) hslot

/-- A push keeps RAM in canonical form. -/
theorem push_ram_wf {s : State} (v : Byte) (hr : s.ram.wf 0x800 = true) : (push v s).ram.wf 0x800 = true := by
  have := s.sp.isLt
  rw [push_eq]
  exact Mem.wf_write v hr (by omega)

/-- A pull answers a push if S and RAM are as the push left them, whatever the other registers are by then. -/
theorem pull_of_push {s t : State} {v : Byte} (hr : s.ram.wf 0x800 = true) (hram : t.ram = (push v s).ram)
    (hsp : t.sp = (push v s).sp) : pull t = (v, t.setSp s.sp) := by
  have hsp' : t.sp + 1 = s.sp := by rw [hsp, push_sp, BitVec.sub_add_cancel]
  rw [pull_eq, hsp', hram]
  exact congrArg (·, _) (push_read v hr)

/-- A pull of a word answers the push of one, likewise. -/
theorem pullWord_of_pushWord {s t : State} {w : Word} (hr : s.ram.wf 0x800 = true)
    (hram : t.ram = (pushWord w s).ram) (hsp : t.sp = (pushWord w s).sp) : pullWord t = (w, t.setSp s.sp) := by
  have hlo : pull t = (loByte w, t.setSp (push (hiByte w) s).sp) := pull_of_push (push_ram_wf _ hr) hram hsp
  have hne : s.sp ≠ (push (hiByte w) s).sp := by rw [push_sp]; bv_omega
  have hhi : (pushWord w s).ram.read (slot s.sp) = hiByte w := by
    rw [pushWord, push_read_ne _ (push_ram_wf _ hr) hne, push_read _ hr]
  have hsp' : (push (hiByte w) s).sp + 1 = s.sp := by rw [push_sp, BitVec.sub_add_cancel]
  rw [pullWord, hlo, pull_eq, setSp_sp, setSp_ram, hsp', hram, show 0x100 + s.sp.toNat = slot s.sp from rfl, hhi]
  exact congrArg (·, _) (word_hiByte_loByte w)

/-- A push leaves every byte but the one at S. -/
theorem push_peek_ne {s : State} {b : Word} {n : Nat} (v : Byte) (hr : s.ram.wf 0x800 = true)
    (hq : s.cart.prgRam.wf n = true) (hb : ¬ SameByte (address (slot s.sp)) b) : (push v s).peek b = s.peek b := by
  have hsp := s.sp.isLt
  have ha := stackAddr_toNat s.sp
  rw [address_slot, SameByte, not_or] at hb
  rw [push, peek_setSp]
  exact memWrite_peek_ne v hr hq hb.1 (fun h1 h2 e => hb.2 ⟨h1, h2, e⟩) (.inr (.inl (by omega)))

/-- A push keeps memory but for the byte at S. -/
theorem push_keepsAllButStack {s : State} (v : Byte) (hs : s.Inv) : KeepsAllButStack 1 s (push v s) := by
  intro b hb
  have h0 := hb 0 Nat.one_pos
  exact push_peek_ne v hs.ram hs.cart.prgRam (by simpa [byte] using h0)

/-- A push of a word keeps memory but for the two bytes from S down. -/
theorem pushWord_keepsAllButStack {s : State} (w : Word) (hs : s.Inv) : KeepsAllButStack 2 s (pushWord w s) := by
  intro b hb
  have h0 := hb 0 Nat.two_pos
  have h1 := hb 1 Nat.one_lt_two
  calc (pushWord w s).peek b = (push (hiByte w) s).peek b :=
        push_peek_ne _ (push_ram_wf _ hs.ram) (by rw [push_cart]; exact hs.cart.prgRam)
          (by rw [push_sp]; exact h1)
    _ = s.peek b := push_peek_ne _ hs.ram hs.cart.prgRam (by simpa [byte] using h0)

/-! The flags that a pull sets, in the statements' own terms. -/

/-- Z and N as the statements write them (40 R141). -/
theorem updateZN_eq_zn (v : Byte) (p : Flags) : p.updateZN v = zn v p := by
  have hz : (v == 0) = decide (v.toNat = 0) := by
    rw [Bool.eq_iff_iff, beq_iff_eq, decide_eq_true_eq, ← BitVec.toNat_inj]
    rfl
  have hn : v.getLsbD 7 = decide (128 ≤ v.toNat) := by
    rw [show v.getLsbD 7 = v.msb from rfl, BitVec.msb_eq_decide]
  rw [Flags.updateZN, zn, hz, hn]

/-- Every flag comes back from the byte pushed for P (10 R35, R36). -/
theorem fromByte_toByte (p : Flags) (b : Bool) : Flags.fromByte (p.toByte b) = p := by
  simp (disch := decide) only [Flags.fromByte, Flags.toByte, BitVec.getLsbD_or, bitAt_getLsbD]
  simp

/-- JSR and RTS: the pulled address is that of JSR's last byte, and RTS goes to the next one. -/
theorem rts_jsr {s : State} (a : Word) (hr : s.ram.wf 0x800 = true) :
    rts (jsr a s) = ((jsr a s).setSp s.sp).setPc s.pc := by
  rw [rts, pullWord_of_pushWord (t := jsr a s) (w := s.pc - 1) hr rfl rfl, BitVec.sub_add_cancel]

/-- PLA brings back the byte that PHA pushed, whatever A is by then. -/
theorem pla_pha {s : State} (b : Byte) (hr : s.ram.wf 0x800 = true) :
    pla ((pha s).setA b) = (((pha s).setSp s.sp).setA s.a).updateZN s.a := by
  rw [pla, pull_of_push (t := (pha s).setA b) (v := s.a) hr rfl rfl]
  rfl

/-- PLP brings back the flags that PHP pushed, whatever P is by then. -/
theorem plp_php {s : State} (p : Flags) (hr : s.ram.wf 0x800 = true) :
    plp ((php s).setP p) = ((php s).setSp s.sp).setP s.p := by
  rw [plp, pull_of_push (t := (php s).setP p) (v := s.p.toByte true) hr rfl rfl, fromByte_toByte]
  rfl

end Sys2Proof.Claims

open Sys2Proof Sys2Proof.Machine Sys2Proof.Claims

/-- Settles O27: each pull finds S and RAM as its push left them. -/
theorem pushesAndPullsAreInverse : Obligations.PushesAndPullsAreInverse := by
  intro s a hs
  refine ⟨⟨jsr a s, _, rfl, rfl, congrArg Host.Outcome.next (rts_jsr a hs.ram), ?_, ?_⟩,
    ⟨pha s, _, rfl, congrArg Host.Outcome.next (pla_pha 0 hs.ram), ?_, ?_⟩,
    ⟨php s, _, rfl, congrArg Host.Outcome.next (plp_php (pulledFlags 0) hs.ram), ?_, ?_⟩⟩
  · simp [registers, jsr, pushWord_eq]
  · simpa [KeepsAllButStack, jsr] using pushWord_keepsAllButStack (s.pc - 1) hs
  · simp [registers, pha, push_eq, State.updateZN, updateZN_eq_zn]
  · simpa [KeepsAllButStack, pha, State.updateZN] using push_keepsAllButStack s.a hs
  · simp [registers, php, push_eq]
  · simpa [KeepsAllButStack, php] using push_keepsAllButStack (s.p.toByte true) hs

end

section
/-! The power-on state (10 R43, R44; 20 R64). -/

namespace Sys2Proof.Claims

open Sys2Proof.Machine

/-- The model's 16-bit join is the one written over numbers (00 R7). -/
theorem word_eq_fromBytes (hi lo : Byte) : word hi lo = fromBytes lo hi := by
  apply BitVec.eq_of_toNat_eq
  rw [word_toNat, fromBytes, address, BitVec.toNat_ofNat]
  omega

/-- The vector is read from the last four bytes but one pair of the PRG ROM (20 R64). -/
theorem resetVector_eq {c : Cartridge} (h : 1 ≤ c.prgBanks) :
    c.resetVector = fromBytes (c.prg.read (c.prgBanks * 16384 - 4)) (c.prg.read (c.prgBanks * 16384 - 3)) := by
  have hlo : c.prgSize - 0x4000 + 0x3FFC = c.prgBanks * 16384 - 4 := by rw [Cartridge.prgSize]; omega
  have hhi : c.prgSize - 0x4000 + 0x3FFD = c.prgBanks * 16384 - 3 := by rw [Cartridge.prgSize]; omega
  rw [Cartridge.resetVector, hlo, hhi, word_eq_fromBytes]

/-- CHR ROM is not replaced at power-on. -/
theorem cartridge_powerOn_chr {c : Cartridge} (h : 0 < c.chrBanks) (chrRam prgRam : Mem) :
    (c.powerOn chrRam prgRam).chr = c.chr := by
  have hrom : ¬ c.chrIsRam = true := by simp only [Cartridge.chrIsRam, beq_iff_eq]; omega
  exact if_neg hrom

/-- A cartridge whose ROMs fit their sizes meets the invariant at power-on with memories that fit. -/
theorem cartridge_powerOn_inv {c : Cartridge} {chrRam prgRam : Mem} (hb : 1 ≤ c.prgBanks)
    (hp : c.prg.wf c.prgSize = true) (hc : c.chr.wf c.chrSize = true) (hchr : chrRam.wf 0x2000 = true)
    (hram : prgRam.wf 0x2000 = true) : (c.powerOn chrRam prgRam).Inv where
  prgBanks := hb
  prg := hp
  chr := by
    change Mem.wf c.chrSize (if c.chrIsRam = true then chrRam else c.chr) = true
    split
    case isTrue h => rwa [Cartridge.chrSize, if_pos h]
    case isFalse => exact hc
  prgRam := by
    change Mem.wf (if c.hasPrgRam = true then 0x2000 else 0) (if c.hasPrgRam = true then prgRam else []) = true
    split
    · exact hram
    · rfl
  shiftCount := Nat.zero_le 4

/-- The PPU meets its invariant at power-on with memories that fit. -/
theorem ppu_powerOn_inv {o : OpenValues} (h : OpenMemoriesFit o) : (Ppu.powerOn o.oam o.vram o.palette).Inv where
  oam := h.oam
  vram := h.vram
  palette := h.palette
  colours := h.colours
  timers := rfl
  decayed := rfl
  scanlineLow := Int.le_refl _
  scanlineHigh := (by decide : (-1 : Int) ≤ 260)
  cycle := Nat.zero_le _
  secondaryLength := Nat.zero_le _
  secondaryIndex := nofun
  dmaActive := rfl
  nmiOut := rfl
  frame := rfl

/-- The power-on state of a fitting cartridge, with OPEN memories that fit, meets the invariant. -/
theorem powerOn_inv {c : Cartridge} {o : OpenValues} (stall : OamDmaStall) (hb : 1 ≤ c.prgBanks)
    (hp : c.prg.wf c.prgSize = true) (hc : c.chr.wf c.chrSize = true) (h : OpenMemoriesFit o) :
    (State.powerOn c o stall).Inv where
  ram := h.ram
  cart := cartridge_powerOn_inv hb hp hc h.chrRam h.prgRam
  ppu := ppu_powerOn_inv h
  pads := ⟨rfl, nofun, nofun⟩

/-- Empty memories fit. -/
theorem openMemoriesFit_zero : OpenMemoriesFit .zero :=
  ⟨rfl, rfl, rfl, rfl, rfl, fun _ _ => (by decide : Mem.fill < 64), rfl⟩

end Sys2Proof.Claims

open Sys2Proof Sys2Proof.Machine Sys2Proof.Claims

/-- Settles O55: each value is a field of `State.powerOn`; PC and CHR ROM need an argument. -/
theorem powerOnValues : Obligations.PowerOnValues := by
  intro c o stall hb
  exact ⟨_, rfl, resetVector_eq hb, rfl, rfl, rfl, rfl, rfl, rfl, rfl, rfl, fun h => cartridge_powerOn_chr h _ _, rfl,
    rfl, rfl⟩

/-- Settles O56: the blank cartridge and the empty memories fit. -/
theorem invariantHoldsAtReset : Obligations.InvariantHoldsAtReset :=
  powerOn_inv .zero (by decide) rfl rfl openMemoriesFit_zero

end

section
/-! Which registers and flags each instruction can change (10 R21 to R24, R27 to R30, R33, R34). -/

namespace Sys2Proof.Claims

open Sys2Proof.Machine

/-- A bus read changes no CPU register. -/
@[simp] theorem registers_memRead (a : Word) (s : State) : registers (memRead a s).2 = registers s := by
  simp [registers]

/-- A bus write changes no CPU register. -/
@[simp] theorem registers_memWrite (a : Word) (v : Byte) (s : State) :
    registers (memWrite a v s) = registers s := by
  simp [registers]

/-- Only the accumulator form is located in A. -/
theorem locate_fst_eq_regA (o : Operand) (s : State) : (locate o s).1 = .regA ↔ o = .accumulator := by
  cases o <;> simp [locate, indexed]

/-- The mnemonics that can change A (10 R21). -/
def writersOfA : List Mnemonic :=
  [.lda, .pla, .txa, .tya, .adc, .sbc, .and, .ora, .eor, .asl, .lsr, .rol, .ror]

/-- The mnemonics that can change X (10 R22). -/
def writersOfX : List Mnemonic := [.ldx, .tax, .tsx, .inx, .dex]

/-- The mnemonics that can change Y (10 R23). -/
def writersOfY : List Mnemonic := [.ldy, .tay, .iny, .dey]

/-- The mnemonics that can change S (10 R24). -/
def writersOfSp : List Mnemonic := [.txs, .pha, .php, .pla, .plp, .jsr, .rts, .rti, .brk]

/-- The mnemonics that can change C (10 R27). -/
def writersOfC : List Mnemonic := [.adc, .sbc, .cmp, .cpx, .cpy, .asl, .lsr, .rol, .ror, .clc, .sec, .plp, .rti]

/-- The mnemonics that can change I (10 R29). -/
def writersOfI : List Mnemonic := [.sei, .cli, .brk, .plp, .rti]

/-- The mnemonics that can change D (10 R30). -/
def writersOfD : List Mnemonic := [.sed, .cld, .plp, .rti]

/-- The mnemonics that can change V (10 R33). -/
def writersOfV : List Mnemonic := [.adc, .sbc, .bit, .clv, .plp, .rti]

/-- The mnemonics that leave Z and N (10 R28, R34). -/
def keepersOfZN : List Mnemonic :=
  [.sta, .stx, .sty, .txs, .bpl, .bmi, .bvc, .bvs, .bcc, .bcs, .bne, .beq, .jmp, .jsr, .rts, .pha, .php, .clc, .cld,
    .cli, .clv, .sec, .sed, .sei, .nop, .brk]

/-- From the registers `r` to `u`, a register or flag has changed only if its rule names `m`. -/
structure ChangesOnlyNamed (m : Mnemonic) (r u : Registers) : Prop where
  a : u.a = r.a ∨ m ∈ writersOfA
  x : u.x = r.x ∨ m ∈ writersOfX
  y : u.y = r.y ∨ m ∈ writersOfY
  sp : u.sp = r.sp ∨ m ∈ writersOfSp
  c : u.p.c = r.p.c ∨ m ∈ writersOfC
  i : u.p.i = r.p.i ∨ m ∈ writersOfI
  d : u.p.d = r.p.d ∨ m ∈ writersOfD
  v : u.p.v = r.p.v ∨ m ∈ writersOfV
  zn : (u.p.z = r.p.z ∧ u.p.n = r.p.n) ∨ m ∉ keepersOfZN

namespace ChangesOnlyNamed

variable {m : Mnemonic} {r : Registers} {s : State}

/-- The state that an instruction starts from. -/
theorem unchanged (s : State) : ChangesOnlyNamed m (registers s) (registers s) :=
  ⟨.inl rfl, .inl rfl, .inl rfl, .inl rfl, .inl rfl, .inl rfl, .inl rfl, .inl rfl, .inl ⟨rfl, rfl⟩⟩

/-! The register updates: one that `m` is named for, and those that no rule restricts. -/

theorem setA (h : ChangesOnlyNamed m r (registers s)) (v : Byte) (hm : m ∈ writersOfA := by decide) :
    ChangesOnlyNamed m r (registers <| s.setA v) := { h with a := .inr hm }

theorem setX (h : ChangesOnlyNamed m r (registers s)) (v : Byte) (hm : m ∈ writersOfX := by decide) :
    ChangesOnlyNamed m r (registers <| s.setX v) := { h with x := .inr hm }

theorem setY (h : ChangesOnlyNamed m r (registers s)) (v : Byte) (hm : m ∈ writersOfY := by decide) :
    ChangesOnlyNamed m r (registers <| s.setY v) := { h with y := .inr hm }

theorem setSp (h : ChangesOnlyNamed m r (registers s)) (v : Byte) (hm : m ∈ writersOfSp := by decide) :
    ChangesOnlyNamed m r (registers <| s.setSp v) := { h with sp := .inr hm }

theorem setPc (h : ChangesOnlyNamed m r (registers s)) (v : Word) :
    ChangesOnlyNamed m r (registers <| s.setPc v) := { h with }

theorem setPageCrossed (h : ChangesOnlyNamed m r (registers s)) (v : Bool) :
    ChangesOnlyNamed m r (registers <| s.setPageCrossed v) := { h with }

theorem setBranchTaken (h : ChangesOnlyNamed m r (registers s)) (v : Bool) :
    ChangesOnlyNamed m r (registers <| s.setBranchTaken v) := { h with }

theorem setP {p : Flags} (h : ChangesOnlyNamed m r (registers s)) (hc : p.c = s.p.c ∨ m ∈ writersOfC)
    (hi : p.i = s.p.i ∨ m ∈ writersOfI) (hd : p.d = s.p.d ∨ m ∈ writersOfD) (hv : p.v = s.p.v ∨ m ∈ writersOfV)
    (hzn : (p.z = s.p.z ∧ p.n = s.p.n) ∨ m ∉ keepersOfZN) : ChangesOnlyNamed m r (registers <| s.setP p) where
  a := h.a
  x := h.x
  y := h.y
  sp := h.sp
  c := hc.elim (fun e => e ▸ h.c) .inr
  i := hi.elim (fun e => e ▸ h.i) .inr
  d := hd.elim (fun e => e ▸ h.d) .inr
  v := hv.elim (fun e => e ▸ h.v) .inr
  zn := hzn.elim (fun e => e.1 ▸ e.2 ▸ h.zn) .inr

/-- Z and N computed from a result. -/
theorem updateZN (h : ChangesOnlyNamed m r (registers s)) (v : Byte) (hm : m ∉ keepersOfZN := by decide) :
    ChangesOnlyNamed m r (registers <| s.updateZN v) :=
  h.setP (.inl rfl) (.inl rfl) (.inl rfl) (.inl rfl) (.inr hm)

/-- C alone, as CLC and SEC write it and a shift does before its Z and N. -/
theorem setC (h : ChangesOnlyNamed m r (registers s)) (b : Bool) (hm : m ∈ writersOfC := by decide) :
    ChangesOnlyNamed m r (registers <| s.setP { s.p with c := b }) :=
  h.setP (.inr hm) (.inl rfl) (.inl rfl) (.inl rfl) (.inl ⟨rfl, rfl⟩)

theorem setI (h : ChangesOnlyNamed m r (registers s)) (b : Bool) (hm : m ∈ writersOfI := by decide) :
    ChangesOnlyNamed m r (registers <| s.setP { s.p with i := b }) :=
  h.setP (.inl rfl) (.inr hm) (.inl rfl) (.inl rfl) (.inl ⟨rfl, rfl⟩)

theorem setD (h : ChangesOnlyNamed m r (registers s)) (b : Bool) (hm : m ∈ writersOfD := by decide) :
    ChangesOnlyNamed m r (registers <| s.setP { s.p with d := b }) :=
  h.setP (.inl rfl) (.inl rfl) (.inr hm) (.inl rfl) (.inl ⟨rfl, rfl⟩)

theorem setV (h : ChangesOnlyNamed m r (registers s)) (b : Bool) (hm : m ∈ writersOfV := by decide) :
    ChangesOnlyNamed m r (registers <| s.setP { s.p with v := b }) :=
  h.setP (.inl rfl) (.inl rfl) (.inl rfl) (.inr hm) (.inl ⟨rfl, rfl⟩)

/-- The flags of a comparison: C, Z and N. -/
theorem compare (h : ChangesOnlyNamed m r (registers s)) (reg val : Byte) (hc : m ∈ writersOfC := by decide)
    (hzn : m ∉ keepersOfZN := by decide) : ChangesOnlyNamed m r (registers <| s.setP (s.p.compare reg val)) :=
  h.setP (.inr hc) (.inl rfl) (.inl rfl) (.inl rfl) (.inr hzn)

/-- The flags of BIT: V, Z and N. -/
theorem bitTest (h : ChangesOnlyNamed m r (registers s)) (a val : Byte) (hv : m ∈ writersOfV := by decide)
    (hzn : m ∉ keepersOfZN := by decide) : ChangesOnlyNamed m r (registers <| s.setP (s.p.bitTest a val)) :=
  h.setP (.inl rfl) (.inl rfl) (.inl rfl) (.inr hv) (.inr hzn)

/-- Every flag, as a pull of P loads them. -/
theorem setFlags (h : ChangesOnlyNamed m r (registers s)) (p : Flags) (hc : m ∈ writersOfC := by decide)
    (hi : m ∈ writersOfI := by decide) (hd : m ∈ writersOfD := by decide) (hv : m ∈ writersOfV := by decide)
    (hzn : m ∉ keepersOfZN := by decide) : ChangesOnlyNamed m r (registers <| s.setP p) :=
  h.setP (.inr hc) (.inr hi) (.inr hd) (.inr hv) (.inr hzn)

/-! The bus accesses and what is made of them. -/

theorem memRead (h : ChangesOnlyNamed m r (registers s)) (a : Word) :
    ChangesOnlyNamed m r (registers (memRead a s).2) :=
  registers_memRead a s ▸ h

theorem memWrite (h : ChangesOnlyNamed m r (registers s)) (a : Word) (v : Byte) :
    ChangesOnlyNamed m r (registers (memWrite a v s)) :=
  registers_memWrite a v s ▸ h

theorem locate (h : ChangesOnlyNamed m r (registers s)) (o : Operand) :
    ChangesOnlyNamed m r (registers (locate o s).2) := by
  cases o with
  | accumulator | immediate | zeroPage | zeroPageX | zeroPageY | absolute => exact h
  | absoluteX | absoluteY => exact h.setPageCrossed _
  | indirectX => exact (h.memRead _).memRead _
  | indirectY => exact ((h.memRead _).memRead _).setPageCrossed _

theorem readLoc (h : ChangesOnlyNamed m r (registers s)) (l : Loc) :
    ChangesOnlyNamed m r (registers (readLoc l s).2) := by
  cases l with
  | regA | imm => exact h
  | mem ea => exact h.memRead ea

theorem readOperand (h : ChangesOnlyNamed m r (registers s)) (o : Operand) :
    ChangesOnlyNamed m r (registers (readOperand o s).2) :=
  (h.locate o).readLoc _

/-- A result goes to A only where an instruction that may change A asks for it. -/
theorem writeLoc (h : ChangesOnlyNamed m r (registers s)) (l : Loc) (v : Byte) (hm : l = .regA → m ∈ writersOfA) :
    ChangesOnlyNamed m r (registers (writeLoc l v s)) := by
  cases l with
  | regA => exact h.setA v (hm rfl)
  | imm => exact h
  | mem ea => exact h.memWrite ea v

theorem push (h : ChangesOnlyNamed m r (registers s)) (v : Byte) (hm : m ∈ writersOfSp := by decide) :
    ChangesOnlyNamed m r (registers (push v s)) :=
  (h.memWrite _ v).setSp _ hm

theorem pull (h : ChangesOnlyNamed m r (registers s)) (hm : m ∈ writersOfSp := by decide) :
    ChangesOnlyNamed m r (registers (pull s).2) :=
  (h.setSp _ hm).memRead _

theorem pushWord (h : ChangesOnlyNamed m r (registers s)) (v : Word) (hm : m ∈ writersOfSp := by decide) :
    ChangesOnlyNamed m r (registers (pushWord v s)) :=
  (h.push _ hm).push _ hm

theorem pullWord (h : ChangesOnlyNamed m r (registers s)) (hm : m ∈ writersOfSp := by decide) :
    ChangesOnlyNamed m r (registers (pullWord s).2) :=
  (h.pull hm).pull hm

/-! The shared operations of the instructions. -/

theorem storeOperand {o : Operand} (h : ChangesOnlyNamed m r (registers s)) (v : Byte) (ho : o ≠ .accumulator) :
    ChangesOnlyNamed m r (registers (storeOperand o v s)) :=
  (h.locate o).writeLoc _ v fun e => absurd ((locate_fst_eq_regA o s).mp e) ho

/-- ADC and SBC. -/
theorem addWithCarry (h : ChangesOnlyNamed m r (registers s)) (val : Byte) (ha : m ∈ writersOfA := by decide)
    (hc : m ∈ writersOfC := by decide) (hv : m ∈ writersOfV := by decide) (hzn : m ∉ keepersOfZN := by decide) :
    ChangesOnlyNamed m r (registers (addWithCarry val s)) :=
  (h.setA _ ha).setP (.inr hc) (.inl rfl) (.inl rfl) (.inr hv) (.inr hzn)

/-- AND, ORA and EOR. -/
theorem logicOp (h : ChangesOnlyNamed m r (registers s)) (f : Byte → Byte → Byte) (o : Operand)
    (ha : m ∈ writersOfA := by decide) (hzn : m ∉ keepersOfZN := by decide) :
    ChangesOnlyNamed m r (registers (logicOp f o s)) :=
  ((h.readOperand o).setA _ ha).updateZN _ hzn

/-- INC and DEC. -/
theorem modifyOperand {o : Operand} (h : ChangesOnlyNamed m r (registers s)) (f : Byte → Byte)
    (ho : o ≠ .accumulator) (hzn : m ∉ keepersOfZN := by decide) :
    ChangesOnlyNamed m r (registers (modifyOperand f o s)) :=
  (((h.locate o).readLoc _).writeLoc _ _ fun e => absurd ((locate_fst_eq_regA o s).mp e) ho).updateZN _ hzn

/-- ASL, LSR, ROL and ROR, of A or of memory. -/
theorem shiftOp (h : ChangesOnlyNamed m r (registers s)) (f : Byte → Bool → Shifted) (o : Operand)
    (ha : m ∈ writersOfA := by decide) (hc : m ∈ writersOfC := by decide) (hzn : m ∉ keepersOfZN := by decide) :
    ChangesOnlyNamed m r (registers (shiftOp f o s)) :=
  ((((h.locate o).readLoc _).setC _ hc).writeLoc _ _ fun _ => ha).updateZN _ hzn

theorem branch (h : ChangesOnlyNamed m r (registers s)) (cond : Bool) (off : Int) :
    ChangesOnlyNamed m r (registers (branch cond off s)) := by
  cases cond with
  | true => exact ((h.setBranchTaken _).setPageCrossed _).setPc _
  | false => exact h

/-- BRK's exception entry. -/
theorem takeException (h : ChangesOnlyNamed m r (registers s)) (ret : Word) (b : Bool) (vector : Word)
    (hsp : m ∈ writersOfSp := by decide) (hi : m ∈ writersOfI := by decide) :
    ChangesOnlyNamed m r (registers (takeException ret b vector s)) :=
  (((((h.pushWord ret hsp).push _ hsp).setI _ hi).memRead _).memRead _).setPc _

end ChangesOnlyNamed

/-- An arm of the case split below: the table's entry for the opcode byte gives the mnemonic. -/
theorem answersNamed {i : Instr} {s t : State} (m : Mnemonic) (hi : exec i s = .next t)
    (h : ChangesOnlyNamed m (registers s) (registers t))
    (hm : mnemonicOf i = some m := by simp only [mnemonicOf, Instr.opcode]; decide) :
    ∃ m t, mnemonicOf i = some m ∧ exec i s = .next t ∧ ChangesOnlyNamed m (registers s) (registers t) :=
  ⟨m, t, hm, hi, h⟩

open ChangesOnlyNamed in
/-- Each instruction answers a next state, and is made of updates that its mnemonic is named for. -/
theorem exec_changesOnlyNamed (i : Instr) (s : State) :
    ∃ m t, mnemonicOf i = some m ∧ exec i s = .next t ∧ ChangesOnlyNamed m (registers s) (registers t) :=
  match i with
  | .ldaIndX _ | .ldaZp _ | .ldaImm _ | .ldaAbs _ | .ldaIndY _ | .ldaZpX _ | .ldaAbsY _ | .ldaAbsX _ =>
    answersNamed .lda rfl <| (((unchanged s).readOperand _).setA _).updateZN _
  | .ldxImm _ | .ldxZp _ | .ldxAbs _ | .ldxZpY _ | .ldxAbsY _ =>
    answersNamed .ldx rfl <| (((unchanged s).readOperand _).setX _).updateZN _
  | .ldyImm _ | .ldyZp _ | .ldyAbs _ | .ldyZpX _ | .ldyAbsX _ =>
    answersNamed .ldy rfl <| (((unchanged s).readOperand _).setY _).updateZN _
  | .staIndX _ | .staZp _ | .staAbs _ | .staIndY _ | .staZpX _ | .staAbsY _ | .staAbsX _ =>
    answersNamed .sta rfl <| (unchanged s).storeOperand _ nofun
  | .stxZp _ | .stxAbs _ | .stxZpY _ => answersNamed .stx rfl <| (unchanged s).storeOperand _ nofun
  | .styZp _ | .styAbs _ | .styZpX _ => answersNamed .sty rfl <| (unchanged s).storeOperand _ nofun
  | .tax => answersNamed .tax rfl <| ((unchanged s).setX _).updateZN _
  | .tay => answersNamed .tay rfl <| ((unchanged s).setY _).updateZN _
  | .txa => answersNamed .txa rfl <| ((unchanged s).setA _).updateZN _
  | .tya => answersNamed .tya rfl <| ((unchanged s).setA _).updateZN _
  | .tsx => answersNamed .tsx rfl <| ((unchanged s).setX _).updateZN _
  | .txs => answersNamed .txs rfl <| (unchanged s).setSp _
  | .adcIndX _ | .adcZp _ | .adcImm _ | .adcAbs _ | .adcIndY _ | .adcZpX _ | .adcAbsY _ | .adcAbsX _ =>
    answersNamed .adc rfl <| ((unchanged s).readOperand _).addWithCarry _
  | .sbcIndX _ | .sbcZp _ | .sbcImm _ | .sbcAbs _ | .sbcIndY _ | .sbcZpX _ | .sbcAbsY _ | .sbcAbsX _ =>
    answersNamed .sbc rfl <| ((unchanged s).readOperand _).addWithCarry _
  | .andIndX _ | .andZp _ | .andImm _ | .andAbs _ | .andIndY _ | .andZpX _ | .andAbsY _ | .andAbsX _ =>
    answersNamed .and rfl <| (unchanged s).logicOp _ _
  | .oraIndX _ | .oraZp _ | .oraImm _ | .oraAbs _ | .oraIndY _ | .oraZpX _ | .oraAbsY _ | .oraAbsX _ =>
    answersNamed .ora rfl <| (unchanged s).logicOp _ _
  | .eorIndX _ | .eorZp _ | .eorImm _ | .eorAbs _ | .eorIndY _ | .eorZpX _ | .eorAbsY _ | .eorAbsX _ =>
    answersNamed .eor rfl <| (unchanged s).logicOp _ _
  | .bitZp _ | .bitAbs _ => answersNamed .bit rfl <| ((unchanged s).readOperand _).bitTest _ _
  | .cmpIndX _ | .cmpZp _ | .cmpImm _ | .cmpAbs _ | .cmpIndY _ | .cmpZpX _ | .cmpAbsY _ | .cmpAbsX _ =>
    answersNamed .cmp rfl <| ((unchanged s).readOperand _).compare _ _
  | .cpxImm _ | .cpxZp _ | .cpxAbs _ => answersNamed .cpx rfl <| ((unchanged s).readOperand _).compare _ _
  | .cpyImm _ | .cpyZp _ | .cpyAbs _ => answersNamed .cpy rfl <| ((unchanged s).readOperand _).compare _ _
  | .incZp _ | .incAbs _ | .incZpX _ | .incAbsX _ => answersNamed .inc rfl <| (unchanged s).modifyOperand _ nofun
  | .decZp _ | .decAbs _ | .decZpX _ | .decAbsX _ => answersNamed .dec rfl <| (unchanged s).modifyOperand _ nofun
  | .inx => answersNamed .inx rfl <| ((unchanged s).setX _).updateZN _
  | .iny => answersNamed .iny rfl <| ((unchanged s).setY _).updateZN _
  | .dex => answersNamed .dex rfl <| ((unchanged s).setX _).updateZN _
  | .dey => answersNamed .dey rfl <| ((unchanged s).setY _).updateZN _
  | .aslZp _ | .aslAcc | .aslAbs _ | .aslZpX _ | .aslAbsX _ => answersNamed .asl rfl <| (unchanged s).shiftOp _ _
  | .lsrZp _ | .lsrAcc | .lsrAbs _ | .lsrZpX _ | .lsrAbsX _ => answersNamed .lsr rfl <| (unchanged s).shiftOp _ _
  | .rolZp _ | .rolAcc | .rolAbs _ | .rolZpX _ | .rolAbsX _ => answersNamed .rol rfl <| (unchanged s).shiftOp _ _
  | .rorZp _ | .rorAcc | .rorAbs _ | .rorZpX _ | .rorAbsX _ => answersNamed .ror rfl <| (unchanged s).shiftOp _ _
  | .bpl _ => answersNamed .bpl rfl <| (unchanged s).branch _ _
  | .bmi _ => answersNamed .bmi rfl <| (unchanged s).branch _ _
  | .bvc _ => answersNamed .bvc rfl <| (unchanged s).branch _ _
  | .bvs _ => answersNamed .bvs rfl <| (unchanged s).branch _ _
  | .bcc _ => answersNamed .bcc rfl <| (unchanged s).branch _ _
  | .bcs _ => answersNamed .bcs rfl <| (unchanged s).branch _ _
  | .bne _ => answersNamed .bne rfl <| (unchanged s).branch _ _
  | .beq _ => answersNamed .beq rfl <| (unchanged s).branch _ _
  | .jmpAbs _ => answersNamed .jmp rfl <| (unchanged s).setPc _
  | .jmpInd _ => answersNamed .jmp rfl <| (((unchanged s).memRead _).memRead _).setPc _
  | .jsr _ => answersNamed .jsr rfl <| ((unchanged s).pushWord _).setPc _
  | .rts => answersNamed .rts rfl <| (unchanged s).pullWord.setPc _
  | .pha => answersNamed .pha rfl <| (unchanged s).push _
  | .php => answersNamed .php rfl <| (unchanged s).push _
  | .pla => answersNamed .pla rfl <| ((unchanged s).pull.setA _).updateZN _
  | .plp => answersNamed .plp rfl <| (unchanged s).pull.setFlags _
  | .clc => answersNamed .clc rfl <| (unchanged s).setC _
  | .cld => answersNamed .cld rfl <| (unchanged s).setD _
  | .cli => answersNamed .cli rfl <| (unchanged s).setI _
  | .clv => answersNamed .clv rfl <| (unchanged s).setV _
  | .sec => answersNamed .sec rfl <| (unchanged s).setC _
  | .sed => answersNamed .sed rfl <| (unchanged s).setD _
  | .sei => answersNamed .sei rfl <| (unchanged s).setI _
  | .nop => answersNamed .nop rfl <| unchanged s
  | .brk => answersNamed .brk rfl <| (unchanged s).takeException _ _ _
  | .rti => answersNamed .rti rfl <| ((unchanged s).pull.setFlags _).pullWord.setPc _

end Sys2Proof.Claims

open Sys2Proof Sys2Proof.Machine Sys2Proof.Claims

/-- Settles O30: every instruction is a chain of updates, each of a register or flag that its mnemonic is named for. -/
theorem onlyNamedInstructionsWrite : Obligations.OnlyNamedInstructionsWrite := by
  intro i s t ht
  obtain ⟨m, u, hm, hu, h⟩ := exec_changesOnlyNamed i s
  obtain rfl : u = t := by simpa [hu] using ht
  exact ⟨m, hm, h.a.resolve_left, h.x.resolve_left, h.y.resolve_left, h.sp.resolve_left, h.c.resolve_left,
    h.i.resolve_left, h.d.resolve_left, h.v.resolve_left, fun hzn => h.zn.resolve_left (not_and_or.mpr hzn)⟩

end

section
/-! The CPU address decoder by range (20 R54), and what a read and a write do at each device. -/

namespace Sys2Proof.Machine

variable {a : Word} (s : State)

theorem device_ppu {r : Nat} (h : Claims.Selects r a) : s.device a = .ppu (PpuReg.ofSelect r) := by
  obtain ⟨hlo, hhi, rfl⟩ := h
  simp (disch := omega) only [State.device, busDevice, if_pos, if_neg]

theorem device_oamDma (h : a.toNat = 0x4014) : s.device a = .oamDma := by
  simp (disch := omega) only [State.device, busDevice, if_pos, if_neg]

theorem device_pad1 (h : a.toNat = 0x4016) : s.device a = .pad1 := by
  simp (disch := omega) only [State.device, busDevice, if_pos, if_neg]

theorem device_pad2 (h : a.toNat = 0x4017) : s.device a = .pad2 := by
  simp (disch := omega) only [State.device, busDevice, if_pos, if_neg]

theorem device_apu (h : (0x4000 ≤ a.toNat ∧ a.toNat ≤ 0x4013) ∨ a.toNat = 0x4015) : s.device a = .apu := by
  simp (disch := omega) only [State.device, busDevice, if_pos, if_neg]

theorem device_prgRam (h : 0x6000 ≤ a.toNat) (h2 : a.toNat < 0x8000) (hp : s.cart.hasPrgRam = true) :
    s.device a = .prgRam (a.toNat - 0x6000) := by
  simp (disch := omega) only [State.device, busDevice, if_pos, if_neg, hp, if_true]

theorem device_unmapped (h : (0x4018 ≤ a.toNat ∧ a.toNat < 0x6000) ∨
    (0x6000 ≤ a.toNat ∧ a.toNat < 0x8000 ∧ s.cart.hasPrgRam = false)) : s.device a = .unmapped := by
  rcases h with h | ⟨h1, h2, hp⟩
  · simp (disch := omega) only [State.device, busDevice, if_pos, if_neg]
  · simp (disch := omega) only [State.device, busDevice, if_pos, if_neg, hp, Bool.false_eq_true, if_false]

/-! The accesses of each device. -/

theorem memRead_of_ppu {r : Nat} (h : Claims.Selects r a) : memRead a s = ppuReadReg (PpuReg.ofSelect r) s := by
  simp only [memRead, device_ppu s h]

/-- Where no device answers a read, it is a draw (20 R58, R60). -/
theorem memRead_of_open (h : a.toNat = 0x4014 ∨ (0x4000 ≤ a.toNat ∧ a.toNat ≤ 0x4013) ∨ a.toNat = 0x4015 ∨
    (0x4018 ≤ a.toNat ∧ a.toNat < 0x6000) ∨ (0x6000 ≤ a.toNat ∧ a.toNat < 0x8000 ∧ s.cart.hasPrgRam = false)) :
    memRead a s = s.draw := by
  rcases h with h | h | h | h
  · simp only [memRead, device_oamDma s h]
  · simp only [memRead, device_apu s (.inl h)]
  · simp only [memRead, device_apu s (.inr h)]
  · simp only [memRead, device_unmapped s h]

theorem memRead_of_pad1 (h : a.toNat = 0x4016) : memRead a s = padByte s.pads.read1 s := by
  simp only [memRead, device_pad1 s h]

theorem memRead_of_pad2 (h : a.toNat = 0x4017) : memRead a s = padByte s.pads.read2 s := by
  simp only [memRead, device_pad2 s h]

theorem memRead_of_prgRam (h : 0x6000 ≤ a.toNat) (h2 : a.toNat < 0x8000) (hp : s.cart.hasPrgRam = true) :
    memRead a s = (s.cart.prgRam.read (a.toNat - 0x6000), s) := by
  simp only [memRead, device_prgRam s h h2 hp]

variable (v : Byte)

theorem memWrite_of_ppu {r : Nat} (h : Claims.Selects r a) :
    memWrite a v s = ppuWriteReg (PpuReg.ofSelect r) v s := by
  simp only [memWrite, device_ppu s h]

theorem memWrite_of_oamDma (h : a.toNat = 0x4014) : memWrite a v s = oamDma v s := by
  simp only [memWrite, device_oamDma s h]

theorem memWrite_of_pad1 (h : a.toNat = 0x4016) : memWrite a v s = s.setPads (s.pads.writeStrobe v) := by
  simp only [memWrite, device_pad1 s h]

/-- Where no device takes a write, it changes nothing (20 R58, R60). -/
theorem memWrite_of_open (h : (0x4000 ≤ a.toNat ∧ a.toNat ≤ 0x4013) ∨ a.toNat = 0x4015 ∨ a.toNat = 0x4017 ∨
    (0x4018 ≤ a.toNat ∧ a.toNat < 0x6000) ∨ (0x6000 ≤ a.toNat ∧ a.toNat < 0x8000 ∧ s.cart.hasPrgRam = false)) :
    memWrite a v s = s := by
  rcases h with h | h | h | h
  · simp only [memWrite, device_apu s (.inl h)]
  · simp only [memWrite, device_apu s (.inr h)]
  · simp only [memWrite, device_pad2 s h]
  · simp only [memWrite, device_unmapped s h]

theorem memWrite_of_prgRam (h : 0x6000 ≤ a.toNat) (h2 : a.toNat < 0x8000) (hp : s.cart.hasPrgRam = true) :
    memWrite a v s = s.setCart { s.cart with prgRam := s.cart.prgRam.write (a.toNat - 0x6000) v } := by
  simp only [memWrite, device_prgRam s h h2 hp]

theorem memWrite_of_cartridge (h : 0x8000 ≤ a.toNat) : memWrite a v s = s.setCart (s.cart.write a.toNat v) := by
  simp only [memWrite, device_cartridge s h]

/-! The byte of a controller read (60 R275). -/

/-- Bits 7:1 are those of the draw. -/
theorem padByte_upper (r : Bool × Pads) : (padByte r s).1 &&& 0xFE = Config.draw s.draws &&& 0xFE := by
  have hbit : bitAt r.1 0 &&& 0xFE = 0#8 := by cases r.1 <;> decide
  change ((Config.draw s.draws &&& 0xFE) ||| bitAt r.1 0) &&& 0xFE = _
  rw [BitVec.and_or_distrib_right, hbit, BitVec.or_zero, BitVec.and_assoc, BitVec.and_self]

/-- Bit 0 is the port's. -/
theorem padByte_bit0 (r : Bool × Pads) : (padByte r s).1.getLsbD 0 = r.1 := by
  change ((Config.draw s.draws &&& 0xFE) ||| bitAt r.1 0).getLsbD 0 = _
  rw [BitVec.getLsbD_or, bitAt_getLsbD _ 0 0 (by decide)]
  simp

/-! What a read can have an effect on (20 R53). -/

/-- Only the addresses of the PPU's window name a PPU register (20 R57). -/
theorem device_eq_ppu {s : State} {a : Word} {r : PpuReg} (h : s.device a = .ppu r) :
    0x2000 ≤ a.toNat ∧ a.toNat < 0x4000 := by
  simp only [State.device, busDevice] at h
  split_ifs at h
  omega

theorem device_eq_pad1 {s : State} {a : Word} (h : s.device a = .pad1) : a.toNat = 0x4016 := by
  simp only [State.device, busDevice] at h
  split_ifs at h
  assumption

theorem device_eq_pad2 {s : State} {a : Word} (h : s.device a = .pad2) : a.toNat = 0x4017 := by
  simp only [State.device, busDevice] at h
  split_ifs at h
  assumption

/-- Outside its window a read leaves the PPU. -/
theorem memRead_ppu_of_not_window {a : Word} (s : State) (h : ¬ (0x2000 ≤ a.toNat ∧ a.toNat < 0x4000)) :
    (memRead a s).2.ppu = s.ppu := by
  unfold memRead
  cases hd : s.device a with
  | ppu r => exact absurd (device_eq_ppu hd) h
  | _ => rfl

/-- Outside their two addresses a read leaves the controllers. -/
theorem memRead_pads_of_ne {a : Word} (s : State) (h1 : a.toNat ≠ 0x4016) (h2 : a.toNat ≠ 0x4017) :
    (memRead a s).2.pads = s.pads := by
  unfold memRead
  cases hd : s.device a with
  | pad1 => exact absurd (device_eq_pad1 hd) h1
  | pad2 => exact absurd (device_eq_pad2 hd) h2
  | ppu r => exact ppuReadReg_pads r s
  | _ => rfl

end Sys2Proof.Machine

open Sys2Proof Sys2Proof.Machine Sys2Proof.Claims

/-- Settles O31: each range is one device of the decoder, and the access is that device's. -/
theorem busDecodesEveryAddress : Obligations.BusDecodesEveryAddress := by
  intro a v s
  refine ⟨memRead_of_ram s, fun _ => memRead_of_ppu s, memRead_of_open s, fun h => ⟨_, memRead_of_pad1 s h, ?_⟩,
    fun h => ⟨_, memRead_of_pad2 s h, ?_⟩, memRead_of_prgRam s, memRead_of_cartridge s, memWrite_of_ram v s,
    fun _ => memWrite_of_ppu s v, memWrite_of_oamDma s v, memWrite_of_pad1 s v, memWrite_of_open s v,
    memWrite_of_prgRam s v, memWrite_of_cartridge s v⟩
  · exact ⟨padByte_upper s _, rfl, padByte_bit0 s _⟩
  · exact ⟨padByte_upper s _, rfl, padByte_bit0 s _⟩

/-- Settles O32: the mirrors are one address of RAM, and a write to RAM changes that byte alone. -/
theorem ramReadsBackAtEveryMirror : Obligations.RamReadsBackAtEveryMirror := by
  intro a b v s hs ha hb
  rw [memWrite_of_ram v s ha, memRead_of_ram _ hb, memRead_of_ram s hb, setRam_ram]
  split
  case isTrue h => rw [← h, Mem.read_write_self _ _ _ (Mem.wfFrom_exists hs.ram)]
  case isFalse h => rw [Mem.read_write_ne _ _ _ _ (Mem.wfFrom_exists hs.ram) (Ne.symm h)]

/-- Settles O33: only the PPU's window and the two ports have a read with an effect on their device. -/
theorem readsHaveOnlyTheirSideEffects : Obligations.ReadsHaveOnlyTheirSideEffects := by
  intro a s
  exact ⟨registers_memRead a s, by simp [kept], memRead_ram a s, memRead_cart a s, memRead_nmiPending a s,
    fun b => memRead_peek a b s, memRead_ppu_of_not_window s, memRead_pads_of_ne s⟩

end

section
/-! The cartridge: NROM, MMC1 and the iNES file (20 R70 to R87). -/

namespace Sys2Proof.Machine

/-! The two kinds of mapper (20 R72). -/

theorem kind_nrom {c : Cartridge} (h : c.mapper ≠ 1) : c.kind = .nrom := if_neg h

theorem kind_mmc1 {c : Cartridge} (h : c.mapper = 1) : c.kind = .mmc1 := if_pos h

/-- CHR memory is written only when it is RAM (20 R75, R82). -/
theorem writeChr_eq (c : Cartridge) (a : Nat) (v : Byte) :
    c.writeChr a v = if c.chrBanks = 0 then { c with chr := c.chr.write (c.chrOffset a) v } else c := by
  simp only [Cartridge.writeChr, Cartridge.chrIsRam, beq_iff_eq]

/-- CHR memory is at least 8 KiB (20 R70). -/
theorem le_chrSize (c : Cartridge) : 0x2000 ≤ c.chrSize := by
  unfold Cartridge.chrSize Cartridge.chrIsRam
  split
  case isTrue => exact Nat.le_refl _
  case isFalse h =>
    have hbanks : c.chrBanks ≠ 0 := by simpa using h
    omega

/-- The CHR offset of a pattern-table address lies in the CHR memory (20 R75, R82). -/
theorem chrOffset_lt (c : Cartridge) {a : Nat} (ha : a < 0x2000) : c.chrOffset a < c.chrSize := by
  have hsize := le_chrSize c
  have hpos : 0 < c.chrSize := by omega
  unfold Cartridge.chrOffset mmc1ChrOffset
  split
  · omega
  · split <;> exact Nat.mod_lt _ hpos

/-! The serial port of MMC1 (20 R78, R79). -/

/-- A write with bit 7 set (20 R78). -/
theorem serialWrite_reset (m : Mmc1) (a : Nat) {v : Byte} (h : v.getLsbD 7 = true) :
    m.serialWrite a v = { m with shiftValue := 0, shiftCount := 0, control := m.control ||| 0x0C } := if_pos h

/-- The shift register after a write with bit 7 clear: the write's bit 0 enters at the top (20 R78). -/
def shiftIn (x : BitVec 5) (v : Byte) : BitVec 5 :=
  (x >>> 1) ||| (if v.getLsbD 0 then 0x10 else 0)

theorem shiftIn_toNat (x : BitVec 5) (v : Byte) : (shiftIn x v).toNat = x.toNat / 2 + 16 * (v.toNat % 2) := by
  have hbit : v.toNat % 2 = (v.getLsbD 0).toNat := by
    rw [BitVec.getLsbD, Nat.testBit_zero]
    rcases Nat.mod_two_eq_zero_or_one v.toNat with h | h <;> simp [h]
  rw [hbit, shiftIn]
  generalize v.getLsbD 0 = b
  revert x b
  decide

/-- One of the first four writes with bit 7 clear. -/
theorem serialWrite_shift {m : Mmc1} (a : Nat) {v : Byte} (h : v.getLsbD 7 = false) (hc : m.shiftCount ≠ 4) :
    m.serialWrite a v = { m with shiftValue := shiftIn m.shiftValue v, shiftCount := m.shiftCount + 1 } := by
  simp only [Mmc1.serialWrite, h, hc, Bool.false_eq_true, if_false, shiftIn]

/-- The fifth write with bit 7 clear. -/
theorem serialWrite_load {m : Mmc1} (a : Nat) {v : Byte} (h : v.getLsbD 7 = false) (hc : m.shiftCount = 4) :
    m.serialWrite a v = { m.load a (shiftIn m.shiftValue v) with shiftValue := 0, shiftCount := 0 } := by
  simp only [Mmc1.serialWrite, h, hc, Bool.false_eq_true, if_false, if_true, shiftIn]

/-- The register that a load writes, chosen by bits 14:13 of the address (20 R79). -/
theorem load_eq (m : Mmc1) (a : Nat) (value : BitVec 5) :
    m.load a value = { m with
      control := if a / 0x2000 % 4 = 0 then value else m.control
      chrBank0 := if a / 0x2000 % 4 = 1 then value else m.chrBank0
      chrBank1 := if a / 0x2000 % 4 = 2 then value else m.chrBank1
      prgBank := if a / 0x2000 % 4 = 3 then value else m.prgBank } := by
  have hlt : a / 0x2000 % 4 < 4 := Nat.mod_lt _ (by decide)
  unfold Mmc1.load
  generalize a / 0x2000 % 4 = r at hlt
  match r, hlt with
  | 0, _ | 1, _ | 2, _ | 3, _ => rfl

/-! The banks and the mirroring of MMC1 (20 R80 to R84). -/

theorem prgOffset_mmc1 {c : Cartridge} (hm : c.mapper = 1) (a : Nat) : c.prgOffset a =
    match c.mmc1.control.toNat / 4 % 4 with
    | 2 => (if a < 0xC000 then 0 else c.mmc1.prgBank.toNat % 16) % c.prgBanks * 0x4000 + a % 0x4000
    | 3 => (if a < 0xC000 then c.mmc1.prgBank.toNat % 16 else c.prgBanks - 1) % c.prgBanks * 0x4000 + a % 0x4000
    | _ => (c.mmc1.prgBank.toNat / 2 % 8 * 0x8000 + a % 0x8000) % (c.prgBanks * 16384) := by
  have hbank : c.mmc1.prgBank.toNat % 16 / 2 = c.mmc1.prgBank.toNat / 2 % 8 := by omega
  have hlt : c.mmc1.control.toNat / 4 % 4 < 4 := Nat.mod_lt _ (by decide)
  generalize hmode : c.mmc1.control.toNat / 4 % 4 = mode at hlt
  match mode, hlt with
  | 0, _ | 1, _ | 2, _ | 3, _ =>
    simp only [Cartridge.prgOffset, kind_mmc1 hm, mmc1PrgOffset, Mmc1.prgMode, Cartridge.prgSize, hmode, hbank]

theorem chrOffset_mmc1 {c : Cartridge} (hm : c.mapper = 1) (a : Nat) : c.chrOffset a =
    (if c.mmc1.control.toNat < 16 then c.mmc1.chrBank0.toNat / 2 * 0x2000 + a
      else (if a < 0x1000 then c.mmc1.chrBank0.toNat else c.mmc1.chrBank1.toNat) * 0x1000 + a % 0x1000) % c.chrSize := by
  have hmode : ∀ x : BitVec 5, x.getLsbD 4 = true ↔ ¬ x.toNat < 16 := by decide
  simp only [Cartridge.chrOffset, kind_mmc1 hm, mmc1ChrOffset, hmode, ite_not, apply_ite BitVec.toNat]
  split <;> rfl

theorem mirroring_mmc1 {c : Cartridge} (hm : c.mapper = 1) : c.mirroring =
    [Mirroring.oneScreenLower, .oneScreenUpper, .vertical, .horizontal].getD (c.mmc1.control.toNat % 4) .horizontal := by
  have hlt : c.mmc1.control.toNat % 4 < 4 := Nat.mod_lt _ (by decide)
  simp only [Cartridge.mirroring, kind_mmc1 hm, Mmc1.mirroring]
  generalize c.mmc1.control.toNat % 4 = r at hlt
  match r, hlt with
  | 0, _ | 1, _ | 2, _ | 3, _ => rfl

end Sys2Proof.Machine

open Sys2Proof Sys2Proof.Machine Sys2Proof.Claims

/-- Settles O35: the case of NROM in each operation of the cartridge. -/
theorem nromIsFixed : Obligations.NromIsFixed := by
  intro c a v hm
  have hk := kind_nrom hm
  refine ⟨hk, fun _ _ => ?_, fun _ _ => ?_, fun _ => ?_, fun _ => ?_, ?_⟩
  · simp only [Cartridge.read, Cartridge.prgOffset, hk, Cartridge.prgSize]
  · simp only [Cartridge.write, hk]
  · simp only [Cartridge.readChr, Cartridge.chrOffset, hk]
  · simp only [writeChr_eq, Cartridge.chrOffset, hk]
  · simp only [Cartridge.mirroring, hk]

/-- Settles O36: four writes shift in, the fifth loads, and five shifts leave nothing of the old value. -/
theorem mmc1SerialPortLoads : Obligations.Mmc1SerialPortLoads := by
  intro m a0 a1 a2 a3 a4 v0 v1 v2 v3 v4 r a
  refine ⟨serialWrite_reset m a, fun hc hv => ?_⟩
  simp only [List.forall_mem_cons] at hv
  obtain ⟨h0, h1, h2, h3, h4, -⟩ := hv
  refine ⟨shiftIn (shiftIn (shiftIn (shiftIn (shiftIn m.shiftValue v0) v1) v2) v3) v4, ?_, ?_⟩
  · have := m.shiftValue.isLt
    simp only [shiftIn_toNat]
    omega
  · simp only [serialWrites, serialWrite_shift, serialWrite_load, load_eq, h0, h1, h2, h3, h4, hc, ne_eq, Nat.reduceAdd,
      Nat.reduceEqDiff, not_false_eq_true]

/-- Settles O37: the banks by the PRG mode, the CHR mode and the mirroring bits of the control register. -/
theorem mmc1BanksFollowItsRegisters : Obligations.Mmc1BanksFollowItsRegisters := by
  intro c a hm hc
  refine ⟨fun _ _ => congrArg c.prg.read (prgOffset_mmc1 hm a), fun ha => ?_, mirroring_mmc1 hm⟩
  refine ⟨c.chrOffset a, chrOffset_lt c (by omega), rfl, chrOffset_mmc1 hm a, writeChr_eq c a⟩

end

section
/-! The load of an iNES file (20 R86, R87; 70 R300). -/

namespace Sys2Proof.Machine

/-- The mapper number is the two high nibbles (20 R86). -/
theorem inesMapper_toNat (flags6 flags7 : Byte) :
    (inesMapper flags6 flags7).toNat = flags7.toNat / 16 * 16 + flags6.toNat / 16 := by
  have hhigh : flags7 &&& 0xF0 = (flags7 >>> 4) <<< 4 := by
    refine BitVec.eq_of_getLsbD_eq fun i hi => ?_
    interval_cases i <;> simp
  have h7 : flags7.toNat >>> 4 <<< 4 = flags7.toNat / 16 * 16 := by
    rw [Nat.shiftRight_eq_div_pow, Nat.shiftLeft_eq]
  have h6 : flags6.toNat >>> 4 = flags6.toNat / 16 := Nat.shiftRight_eq_div_pow _ _
  have hlt7 := flags7.isLt
  have hlt6 := flags6.isLt
  rw [inesMapper, hhigh, BitVec.toNat_or, BitVec.toNat_shiftLeft, BitVec.toNat_ushiftRight, BitVec.toNat_ushiftRight,
    Nat.mod_eq_of_lt (by omega), ← Nat.shiftLeft_add_eq_or_of_lt (by omega), h7, h6]

/-- A memory made of a part of a file reads as that part. -/
theorem read_ofBytes_slice {file : List Byte} {start n k : Nat} (hk : k < n) (hn : start + n ≤ file.length) :
    Mem.read (Mem.ofBytes ((file.drop start).take n)) k = file.getD (start + k) 0 := by
  have hlen : k < ((file.drop start).take n).length := by
    rw [List.length_take, List.length_drop]
    omega
  have hread := Mem.read_ofBytesFrom 0 k _ hlen
  rw [Nat.zero_add] at hread
  rw [Mem.ofBytes, hread, List.getD_eq_getElem?_getD, List.getElem?_take_of_lt hk, List.getElem?_drop,
    List.getD_eq_getElem?_getD]

/-- The memory made of a part of a file has the part's size. -/
theorem wf_ofBytes_slice (file : List Byte) (start : Nat) {n size : Nat} (h : n ≤ size) :
    Mem.wf size (Mem.ofBytes ((file.drop start).take n)) = true :=
  Mem.wf_ofBytes _ _ (Nat.le_trans (List.length_take_le _ _) h)

/-- CHR ROM fills the CHR memory (20 R70). -/
theorem chrBanks_le_chrSize (c : Cartridge) : c.chrBanks * 0x2000 ≤ c.chrSize := by
  unfold Cartridge.chrSize Cartridge.chrIsRam
  split
  case isTrue h =>
    have hbanks : c.chrBanks = 0 := by simpa using h
    omega
  case isFalse => exact Nat.le_refl _

/-- The cartridge that the header and the contents of a file describe (20 R86). -/
def fileCartridge (file : List Byte) : Cartridge where
  mapper := inesMapper (file.getD 6 0) (file.getD 7 0)
  prgBanks := (file.getD 4 0).toNat
  chrBanks := (file.getD 5 0).toNat
  hasPrgRam := (file.getD 6 0).getLsbD 1
  verticalMirroring := (file.getD 6 0).getLsbD 0
  prg := Mem.ofBytes ((file.drop (inesPrgStart (file.getD 6 0))).take ((file.getD 4 0).toNat * 0x4000))
  chr := Mem.ofBytes ((file.drop (inesPrgStart (file.getD 6 0) + (file.getD 4 0).toNat * 0x4000)).take
    ((file.getD 5 0).toNat * 0x2000))
  prgRam := []
  mmc1 := Mmc1.powerOn

/-- A file that is complete and has a PRG bank (20 R86, R87). -/
structure GoodFile (file : List Byte) : Prop where
  magic : file.take 4 = inesMagic
  header : 16 ≤ file.length
  complete : inesPrgStart (file.getD 6 0) + (file.getD 4 0).toNat * 0x4000 + (file.getD 5 0).toNat * 0x2000 ≤ file.length
  prgBanks : (file.getD 4 0).toNat ≠ 0

theorem ofFile_of_good {file : List Byte} (h : GoodFile file) : Cartridge.ofFile file = .ok (fileCartridge file) := by
  have hlen := h.header
  have hfull := h.complete
  simp only [Cartridge.ofFile]
  rw [if_neg (not_not.mpr h.magic), if_neg (by omega), if_neg h.prgBanks]
  rfl

theorem ofFile_of_not_good {file : List Byte} (h : ¬ GoodFile file) : ∃ e, Cartridge.ofFile file = .error e := by
  simp only [Cartridge.ofFile]
  split_ifs with hmagic hshort hbanks
  · exact ⟨_, rfl⟩
  · exact ⟨_, rfl⟩
  · exact ⟨_, rfl⟩
  · exact absurd ⟨not_not.mp hmagic, by omega, by omega, hbanks⟩ h

end Sys2Proof.Machine

open Sys2Proof Sys2Proof.Machine Sys2Proof.Claims

/-- Settles O39: the load is the power-on state of the file's cartridge, or refuses for one of R87's three reasons. -/
theorem loadReadsTheHeader : Obligations.LoadReadsTheHeader := by
  intro file o stall f start good
  have hgood : good ↔ GoodFile file :=
    ⟨fun ⟨h1, h2, h3, h4⟩ => ⟨h1, h2, h3, h4⟩, fun h => ⟨h.magic, h.header, h.complete, h.prgBanks⟩⟩
  rw [hgood]
  refine ⟨fun h => ?_, fun h => ⟨_, fileCartridge file, ?_, rfl, rfl, rfl, rfl, rfl, inesMapper_toNat _ _,
    fun k hk => ?_, fun k hk => ?_, fun ho => ?_⟩⟩
  case refine_1 =>
    obtain ⟨e, he⟩ := ofFile_of_not_good h
    exact ⟨e, by rw [State.load, he]⟩
  case refine_2 => rw [State.load, ofFile_of_good h]
  case refine_3 => exact read_ofBytes_slice hk (Nat.le_of_add_right_le h.complete)
  case refine_4 =>
    have hrom : 0 < (fileCartridge file).chrBanks := Nat.pos_of_ne_zero fun h0 => by
      have : f 5 = 0 := h0
      omega
    change Mem.read ((fileCartridge file).powerOn _ _).chr k = _
    rw [cartridge_powerOn_chr hrom]
    exact read_ofBytes_slice hk h.complete
  case refine_5 =>
    exact powerOn_inv stall (Nat.pos_of_ne_zero h.prgBanks) (wf_ofBytes_slice _ _ (Nat.le_refl _))
      (wf_ofBytes_slice _ _ (chrBanks_le_chrSize (fileCartridge file))) ho

end

section
/-! The PPU's memory map (20 R88 to R92). -/

namespace Sys2Proof.Machine

/-- The physical page of a logical nametable, as the table writes it (20 R91). -/
theorem mirrorPage_eq (m : Mirroring) {n : Nat} (h : n < 4) : mirrorPage m n = (Claims.mirrorRow m).getD n 0 := by
  match n, h with
  | 0, _ | 1, _ | 2, _ | 3, _ => cases m <;> rfl

theorem mirrorPage_lt (m : Mirroring) (n : Nat) : mirrorPage m n < 2 := by
  cases m <;> simp only [mirrorPage] <;> omega

/-- VRAM is 2 KiB (20 R90). -/
theorem vramIndex_lt (c : Cartridge) (a : Nat) : vramIndex c a < 2048 := by
  have hpage := mirrorPage_lt c.mirroring (a / 0x400 % 4)
  unfold vramIndex
  omega

theorem vramIndex_eq (c : Cartridge) (a : Nat) :
    vramIndex c a = (Claims.mirrorRow c.mirroring).getD (a / 0x400 % 4) 0 * 0x400 + a % 0x400 := by
  rw [vramIndex, mirrorPage_eq _ (Nat.mod_lt _ (by decide))]

/-- The four aliases are the entries of R92 (20 R92). -/
theorem paletteIndex_eq (a : Nat) : paletteIndex a = Claims.paletteEntry a := by
  simp only [paletteIndex, Claims.paletteEntry, List.mem_cons, List.not_mem_nil, or_false]
  split_ifs <;> omega

theorem paletteIndex_lt (a : Nat) : paletteIndex a < 32 := by
  unfold paletteIndex
  dsimp only
  split <;> omega

/-- A palette byte is cut to 6 bits (20 R92). -/
theorem and_0x3F_eq (v : Byte) : v &&& 0x3F = Claims.byte (v.toNat % 64) := by
  have hmod : v.toNat &&& 63 = v.toNat % 64 := Nat.and_two_pow_sub_one_eq_mod v.toNat 6
  apply BitVec.eq_of_toNat_eq
  rw [Claims.byte, BitVec.toNat_and, BitVec.toNat_ofNat]
  change v.toNat &&& 63 = _
  omega

theorem and_0x3F_lt (v : Byte) : v &&& 0x3F < 64 := by
  rw [and_0x3F_eq, BitVec.lt_def, Claims.byte, BitVec.toNat_ofNat]
  change v.toNat % 64 % 2 ^ 8 < 64
  omega

variable {addr : Word} {s : State}

/-! A read and a write in each of the three ranges. -/

theorem ppuRead_pattern (h : addr.toNat % 0x4000 < 0x2000) : ppuRead addr s = s.cart.readChr (addr.toNat % 0x4000) :=
  if_pos h

theorem ppuRead_nametable (h : 0x2000 ≤ addr.toNat % 0x4000) (h2 : addr.toNat % 0x4000 < 0x3F00) :
    ppuRead addr s = s.ppu.vram.read (vramIndex s.cart (addr.toNat % 0x4000)) :=
  (if_neg (Nat.not_lt.mpr h)).trans (if_pos h2)

theorem ppuRead_palette (h : 0x3F00 ≤ addr.toNat % 0x4000) :
    ppuRead addr s = s.ppu.palette.read (paletteIndex (addr.toNat % 0x4000)) :=
  (if_neg (by omega)).trans (if_neg (Nat.not_lt.mpr h))

theorem ppuWrite_pattern (v : Byte) (h : addr.toNat % 0x4000 < 0x2000) :
    ppuWrite addr v s = s.setCart (s.cart.writeChr (addr.toNat % 0x4000) v) :=
  if_pos h

theorem ppuWrite_nametable (v : Byte) (h : 0x2000 ≤ addr.toNat % 0x4000) (h2 : addr.toNat % 0x4000 < 0x3F00) :
    ppuWrite addr v s = s.setPpu { s.ppu with
      vram := s.ppu.vram.write (vramIndex s.cart (addr.toNat % 0x4000)) v } :=
  (if_neg (Nat.not_lt.mpr h)).trans (if_pos h2)

theorem ppuWrite_palette (v : Byte) (h : 0x3F00 ≤ addr.toNat % 0x4000) :
    ppuWrite addr v s = s.setPpu { s.ppu with
      palette := s.ppu.palette.write (paletteIndex (addr.toNat % 0x4000)) (v &&& 0x3F) } :=
  (if_neg (by omega)).trans (if_neg (Nat.not_lt.mpr h))

/-- A read after a write, at any address, of a memory in canonical form. -/
theorem Mem.read_write {m : Mem} {size : Nat} (a j : Nat) (v : Byte) (h : Mem.wf size m = true) :
    Mem.read (Mem.write m a v) j = if j = a then v else Mem.read m j := by
  split
  case isTrue heq => rw [heq, Mem.read_write_self _ _ _ (Mem.wfFrom_exists h)]
  case isFalse hne => exact Mem.read_write_ne _ _ _ _ (Mem.wfFrom_exists h) hne

end Sys2Proof.Machine

open Sys2Proof Sys2Proof.Machine Sys2Proof.Claims

/-- Settles O40: each range is one memory, and a write changes that memory's one byte. -/
theorem ppuMemoryMap : Obligations.PpuMemoryMap := by
  intro a v s hs k
  refine ⟨fun h => ⟨ppuRead_pattern h, ppuWrite_pattern v h⟩, fun h1 h2 => ?_, fun h => ?_⟩
  case refine_1 =>
    have hread (m : Mem) : ppuRead a (s.setPpu { s.ppu with vram := m }) = m.read (vramIndex s.cart k) :=
      ppuRead_nametable h1 h2
    simp only [← vramIndex_eq]
    exact ⟨_, ppuWrite_nametable v h1 h2, vramIndex_lt _ _, hread _,
      (hread _).trans ((Mem.read_write _ _ v hs.ppu.vram).trans (if_pos rfl)),
      fun j => Mem.read_write _ j v hs.ppu.vram, rfl⟩
  case refine_2 =>
    have hread (m : Mem) : ppuRead a (s.setPpu { s.ppu with palette := m }) = m.read (paletteIndex k) :=
      ppuRead_palette h
    have hcolour : (ppuRead a s).toNat < 64 := by
      rw [ppuRead_palette h]
      exact hs.ppu.colours _ (paletteIndex_lt k)
    simp only [← paletteIndex_eq, ← and_0x3F_eq]
    exact ⟨_, ppuWrite_palette v h, paletteIndex_lt _, hread _, hcolour,
      (hread _).trans ((Mem.read_write _ _ _ hs.ppu.palette).trans (if_pos rfl)),
      fun j => Mem.read_write _ j _ hs.ppu.palette, rfl⟩

end

section
/-! OAM DMA: the copy, byte by byte (20 R62, R63, R66). -/

namespace Sys2Proof.Machine

open Sys2Proof.Claims

/-- No memory answers a DMA read of this page, so that each byte of it is a draw (20 R66). -/
abbrev DmaPageIsOpen (s : State) (pageNo : Byte) : Prop :=
  0x40 ≤ pageNo.toNat ∧ pageNo.toNat < 0x80 ∧ (pageNo.toNat < 0x60 ∨ s.cart.hasPrgRam = false)

/-- A DMA read where no memory answers is a draw. -/
theorem dmaRead_open {a : Word} {s : State} (hlo : 0x4000 ≤ a.toNat)
    (hhi : a.toNat < 0x6000 ∨ (a.toNat < 0x8000 ∧ s.cart.hasPrgRam = false)) : dmaRead a s = s.draw := by
  have hcases : ((0x4000 ≤ a.toNat ∧ a.toNat ≤ 0x4013) ∨ a.toNat = 0x4015) ∨ a.toNat = 0x4014 ∨ a.toNat = 0x4016 ∨
      a.toNat = 0x4017 ∨ ((0x4018 ≤ a.toNat ∧ a.toNat < 0x6000) ∨
      (0x6000 ≤ a.toNat ∧ a.toNat < 0x8000 ∧ s.cart.hasPrgRam = false)) := by
    cases hp : s.cart.hasPrgRam with
    | false => simp only [hp, and_true] at hhi ⊢; omega
    | true => simp only [hp, Bool.true_eq_false, and_false, or_false] at hhi ⊢; omega
  rcases hcases with h | h | h | h | h
  · simp only [dmaRead, device_apu s h]
  · simp only [dmaRead, device_oamDma s h]
  · simp only [dmaRead, device_pad1 s h]
  · simp only [dmaRead, device_pad2 s h]
  · simp only [dmaRead, device_unmapped s h]

/-- The address of a byte of a page. -/
theorem word_ofNat_toNat (pageNo : Byte) {i : Nat} (hi : i < 256) :
    (word pageNo (BitVec.ofNat 8 i)).toNat = 256 * pageNo.toNat + i := by
  rw [word_toNat, BitVec.toNat_ofNat]
  omega

/-- The state after `n` bytes of the copy, when `oam` is what they made of OAM. -/
def dmaState (s : State) (pageNo : Byte) (n : Nat) (oam : Mem) : State :=
  (s.setDraws (if DmaPageIsOpen s pageNo then s.draws + n else s.draws)).setPpu
    { s.ppu with oam := oam, oamAddr := s.ppu.oamAddr + BitVec.ofNat 8 n }


/-- Byte `n` of an open page is a draw. -/
theorem dmaRead_dmaState_open {s : State} {pageNo : Byte} {n : Nat} (oam : Mem) (hn : n < 256)
    (h : DmaPageIsOpen s pageNo) : dmaRead (word pageNo (BitVec.ofNat 8 n)) (dmaState s pageNo n oam) =
      (dmaSource s pageNo n, (dmaState s pageNo n oam).setDraws (dmaState s pageNo (n + 1) oam).draws) := by
  have ha := word_ofNat_toNat pageNo hn
  have hsource : dmaSource s pageNo n = Config.draw (s.draws + n) := by
    obtain ⟨h1, h2, h3⟩ := h
    dsimp only [dmaSource]
    rw [if_neg (by omega), if_neg (by omega)]
    split
    · rfl
    · rw [if_pos (by omega), if_neg (by rw [h3.resolve_left (by omega)]; decide)]
  have hdraws (k : Nat) : (dmaState s pageNo k oam).draws = s.draws + k := if_pos h
  obtain ⟨h1, h2, h3⟩ := h
  have hopen : (word pageNo (BitVec.ofNat 8 n)).toNat < 0x6000 ∨ ((word pageNo (BitVec.ofNat 8 n)).toNat < 0x8000 ∧
      (dmaState s pageNo n oam).cart.hasPrgRam = false) := h3.imp (by omega) fun h => ⟨by omega, h⟩
  rw [dmaRead_open (by omega) hopen, State.draw, hsource, hdraws, hdraws]
  rfl

/-- Byte `n` of any other page comes from memory or is the open bus, and no draw is taken. -/
theorem dmaRead_dmaState_memory {s : State} {pageNo : Byte} {n : Nat} (oam : Mem) (hn : n < 256)
    (h : ¬ DmaPageIsOpen s pageNo) : dmaRead (word pageNo (BitVec.ofNat 8 n)) (dmaState s pageNo n oam) =
      (dmaSource s pageNo n, (dmaState s pageNo n oam).setDraws (dmaState s pageNo (n + 1) oam).draws) := by
  have hdraws : (dmaState s pageNo n oam).setDraws (dmaState s pageNo (n + 1) oam).draws = dmaState s pageNo n oam := by
    simp only [dmaState, if_neg h]
    rfl
  rw [hdraws]
  have ha := word_ofNat_toNat pageNo hn
  generalize word pageNo (BitVec.ofNat 8 n) = a at ha
  dsimp only [dmaSource]
  rw [← ha]
  rcases (by omega : a.toNat < 0x2000 ∨ (0x2000 ≤ a.toNat ∧ a.toNat < 0x4000) ∨ (0x4000 ≤ a.toNat ∧ a.toNat < 0x8000) ∨
    0x8000 ≤ a.toNat) with h1 | h1 | h1 | h1
  · simp only [dmaRead, device_ram _ h1, if_pos h1]
    rfl
  · simp (disch := omega) only [dmaRead, device_ppu _ ⟨h1.1, h1.2, rfl⟩, if_pos, if_neg]
    rfl
  · have hram : s.cart.hasPrgRam = true := by
      by_contra hp
      exact h ⟨by omega, by omega, .inr (by simpa using hp)⟩
    have h6 : 0x6000 ≤ a.toNat := by
      by_contra hlt
      exact h ⟨by omega, by omega, .inl (by omega)⟩
    simp (disch := omega) only [dmaRead, device_prgRam (dmaState s pageNo n oam) h6 h1.2 hram, if_pos, if_neg, hram, if_true]
    rfl
  · simp (disch := omega) only [dmaRead, device_cartridge _ h1, if_neg]
    rfl

/-- One byte of the copy: the masked source byte goes to the current OAM address, which moves on. -/
theorem dmaByte_dmaState (s : State) (pageNo : Byte) {n : Nat} (oam : Mem) (hn : n < 256) :
    dmaByte pageNo (dmaState s pageNo n oam) n = dmaState s pageNo (n + 1)
      (oam.write ((s.ppu.oamAddr.toNat + n) % 256) (attributeMasked (s.ppu.oamAddr.toNat + n) (dmaSource s pageNo n))) := by
  have hread : dmaRead (word pageNo (BitVec.ofNat 8 n)) (dmaState s pageNo n oam) =
      (dmaSource s pageNo n, (dmaState s pageNo n oam).setDraws (dmaState s pageNo (n + 1) oam).draws) := by
    by_cases h : DmaPageIsOpen s pageNo
    · exact dmaRead_dmaState_open oam hn h
    · exact dmaRead_dmaState_memory oam hn h
  have haddr : (s.ppu.oamAddr + BitVec.ofNat 8 n).toNat = (s.ppu.oamAddr.toNat + n) % 256 := by
    rw [BitVec.toNat_add, BitVec.toNat_ofNat]
    omega
  have hmask : oamMask (s.ppu.oamAddr + BitVec.ofNat 8 n) = attributeMasked (s.ppu.oamAddr.toNat + n) := by
    funext v
    rw [oamMask, attributeMasked, haddr, Nat.mod_mod_of_dvd _ (by decide : 4 ∣ 256)]
  have hnext : s.ppu.oamAddr + BitVec.ofNat 8 n + 1 = s.ppu.oamAddr + BitVec.ofNat 8 (n + 1) := by
    rw [BitVec.ofNat_add, BitVec.add_assoc]
    rfl
  rw [dmaByte, hread, ← haddr, ← hmask]
  unfold dmaState Ppu.writeOamData
  rw [← hnext]
  rfl

/-- After `n` bytes of the copy the first `n` source bytes are in OAM, masked. -/
theorem dmaBytes_eq {s : State} (pageNo : Byte) (hs : s.ppu.oam.wf 256 = true) {n : Nat} (hn : n ≤ 256) :
    ∃ oam, (List.range n).foldl (dmaByte pageNo) s = dmaState s pageNo n oam ∧ oam.wf 256 = true ∧
      ∀ i < n, oam.read ((s.ppu.oamAddr.toNat + i) % 256) =
        attributeMasked (s.ppu.oamAddr.toNat + i) (dmaSource s pageNo i) := by
  induction n with
  | zero =>
    refine ⟨s.ppu.oam, ?_, hs, nofun⟩
    simp [dmaState]
    rfl
  | succ n ih =>
    obtain ⟨oam, hfold, hwf, hread⟩ := ih (by omega)
    have hfold' := dmaByte_dmaState s pageNo oam hn
    rw [← hfold, ← List.foldl_concat (dmaByte pageNo), ← List.range_succ] at hfold'
    refine ⟨_, hfold', Mem.wf_write _ hwf (Nat.mod_lt _ (by decide)), fun i hi => ?_⟩
    rw [Mem.read_write _ _ _ hwf]
    split
    case isTrue heq =>
      obtain rfl : i = n := by omega
      rfl
    case isFalse hne =>
      have hi' : i ≠ n := fun h => hne (h ▸ rfl)
      exact hread i (by omega)

/-- The stall, as the statements write it (20 R63). -/
theorem stallCycles_eq {s t : State} (hp : t.oamDmaStall = s.oamDmaStall) (hc : t.totalCycles = s.totalCycles) :
    stallCycles t = dmaStallOf s := by
  rw [stallCycles, dmaStallOf, hp, hc]
  cases s.oamDmaStall with
  | zero => rfl
  | hardware => dsimp only; split <;> omega

/-- A write of 0x4014: OAM holds the masked bytes of the page, and its address is back where it was. -/
theorem oamDma_eq {s : State} (pageNo : Byte) (hs : s.ppu.oam.wf 256 = true) :
    ∃ oam draws, oamDma pageNo s = { s with
        ppu := { s.ppu with oam := oam, dmaActive := false }
        dmaStall := s.dmaStall + dmaStallOf s
        draws := draws } ∧
      oam.wf 256 = true ∧ ∀ i < 256, oam.read ((s.ppu.oamAddr.toNat + i) % 256) =
        attributeMasked (s.ppu.oamAddr.toNat + i) (dmaSource s pageNo i) := by
  have hcopy := dmaBytes_eq (s := s.setPpu { s.ppu with dmaActive := true }) pageNo hs (Nat.le_refl 256)
  rw [oamDma]
  generalize (List.range 256).foldl _ _ = t at hcopy
  obtain ⟨oam, rfl, hwf, hread⟩ := hcopy
  refine ⟨oam, (dmaState (s.setPpu { s.ppu with dmaActive := true }) pageNo 256 oam).draws, ?_, hwf, hread⟩
  rw [stallCycles_eq (s := s)]
  · apply State.ext_fields <;> simp [dmaState]
  · rfl
  · rfl

end Sys2Proof.Machine

open Sys2Proof Sys2Proof.Machine Sys2Proof.Claims

/-- Settles O34: the fold over the 256 bytes, in closed form. -/
theorem oamDmaCopiesThePage : Obligations.OamDmaCopiesThePage := by
  intro s pageNo hs
  obtain ⟨oam, draws, ht, -, hread⟩ := oamDma_eq pageNo hs.ppu.oam
  refine ⟨_, rfl, ?_⟩
  simp only [memWrite, device_oamDma s (a := 0x4014) rfl, ht]
  refine ⟨hread, trivial, ?_⟩
  rw [← hs.ppu.dmaActive]

end

section
/-! The invariant is kept by each operation of the PPU, the cartridge and the controllers. -/

namespace Sys2Proof.Machine

/-! The open-bus latch, bit by bit (60 R262). -/

theorem timersInRange_iff (u : Ppu) : u.timersInRange = true ↔
    u.obTimers.length = 8 ∧ ∀ i < 8, u.obTimers.getD i 0 ≤ obThresholds.getD i 0 := by
  simp only [Ppu.timersInRange, Bool.and_eq_true, beq_iff_eq]
  refine and_congr_right fun hlen => ?_
  have hzip : (List.zip u.obTimers obThresholds).length = 8 := by
    rw [List.length_zip, hlen]
    rfl
  simp only [List.all_eq_true, decide_eq_true_eq, List.forall_mem_iff_getElem, hzip, List.getElem_zip]
  refine forall₂_congr fun i hi => ?_
  have hth : i < obThresholds.length := hi
  rw [List.getD_eq_getElem _ _ (by omega), List.getD_eq_getElem _ _ hth]

theorem decayed_iff (u : Ppu) : u.decayed = true ↔
    ∀ i < 8, u.obTimers.getD i 0 < obThresholds.getD i 0 ∨ u.ob.getLsbD i = false := by
  simp only [Ppu.decayed, List.all_eq_true, List.mem_range, Bool.or_eq_true, decide_eq_true_eq, Bool.not_eq_true']

theorem obThresholds_pos {i : Nat} (hi : i < 8) : 0 < obThresholds.getD i 0 := by
  revert i
  decide

theorem refresh_obTimers_length {u : Ppu} (mask v : Byte) (h : u.obTimers.length = 8) :
    (u.refresh mask v).obTimers.length = 8 := by
  rw [Ppu.refresh, List.length_zipWith, List.length_range, h, Nat.min_self]

theorem refresh_obTimers_getD {u : Ppu} (mask v : Byte) {i : Nat} (h : u.obTimers.length = 8) (hi : i < 8) :
    (u.refresh mask v).obTimers.getD i 0 = if mask.getLsbD i then 0 else u.obTimers.getD i 0 := by
  have hlen := refresh_obTimers_length mask v h
  rw [List.getD_eq_getElem _ _ (by omega), List.getD_eq_getElem _ _ (by omega)]
  simp only [Ppu.refresh, List.getElem_zipWith, List.getElem_range]

theorem openBusTick_obTimers_length {u : Ppu} (h : u.obTimers.length = 8) :
    u.openBusTick.obTimers.length = 8 := by
  rw [Ppu.openBusTick, List.length_zipWith, h]
  rfl

/-- A tick counts a timer up to its threshold. -/
theorem openBusTick_obTimers_getD {u : Ppu} {i : Nat} (h : u.obTimers.length = 8) (hi : i < 8) :
    u.openBusTick.obTimers.getD i 0 =
      if u.obTimers.getD i 0 < obThresholds.getD i 0 then u.obTimers.getD i 0 + 1 else u.obTimers.getD i 0 := by
  have hlen := openBusTick_obTimers_length h
  have hth : i < obThresholds.length := hi
  rw [List.getD_eq_getElem _ _ (by omega), List.getD_eq_getElem _ _ (by omega), List.getD_eq_getElem _ _ hth]
  simp only [Ppu.openBusTick, List.getElem_zipWith]

/-- A tick keeps the bits whose timers are below their thresholds, and clears the others. -/
theorem openBusTick_ob_getLsbD {u : Ppu} {i : Nat} (h : u.obTimers.length = 8) (hi : i < 8) :
    u.openBusTick.ob.getLsbD i =
      (u.ob.getLsbD i && decide (u.openBusTick.obTimers.getD i 0 < obThresholds.getD i 0)) := by
  have hlen := openBusTick_obTimers_length h
  have hth : i < obThresholds.length := hi
  have hboth : i < (List.zipWith (fun t th => decide (t < th)) u.openBusTick.obTimers obThresholds).length := by
    rw [List.length_zipWith, hlen]
    exact hi
  change (u.ob &&& byteOfBits (List.zipWith _ u.openBusTick.obTimers obThresholds)).getLsbD i = _
  rw [BitVec.getLsbD_and, byteOfBits_getLsbD _ _ hi, List.getD_eq_getElem _ _ hboth, List.getElem_zipWith,
    List.getD_eq_getElem _ _ (by omega), List.getD_eq_getElem _ _ hth]

/-- A refresh keeps the latch's relations. -/
theorem Ppu.Inv.refresh {u : Ppu} (h : u.Inv) (mask v : Byte) : (u.refresh mask v).Inv := by
  obtain ⟨hlen, hmax⟩ := (timersInRange_iff u).mp h.timers
  have htimers : (u.refresh mask v).timersInRange = true := by
    refine (timersInRange_iff _).mpr ⟨refresh_obTimers_length mask v hlen, fun i hi => ?_⟩
    rw [refresh_obTimers_getD mask v hlen hi]
    split
    · exact Nat.zero_le _
    · exact hmax i hi
  have hdecayed : (u.refresh mask v).decayed = true := by
    refine (decayed_iff _).mpr fun i hi => ?_
    rw [refresh_obTimers_getD mask v hlen hi, refresh_ob, mergeBits_getLsbD _ _ _ _ hi]
    split
    · exact .inl (obThresholds_pos hi)
    · exact (decayed_iff u).mp h.decayed i hi
  exact { h with timers := htimers, decayed := hdecayed }

/-- A tick keeps the latch's relations. -/
theorem Ppu.Inv.openBusTick {u : Ppu} (h : u.Inv) : u.openBusTick.Inv := by
  obtain ⟨hlen, hmax⟩ := (timersInRange_iff u).mp h.timers
  have htimers : u.openBusTick.timersInRange = true := by
    refine (timersInRange_iff _).mpr ⟨openBusTick_obTimers_length hlen, fun i hi => ?_⟩
    rw [openBusTick_obTimers_getD hlen hi]
    split
    case isTrue hlt => exact hlt
    case isFalse => exact hmax i hi
  have hdecayed : u.openBusTick.decayed = true := by
    refine (decayed_iff _).mpr fun i hi => ?_
    rw [openBusTick_ob_getLsbD hlen hi, Bool.and_eq_false_iff, decide_eq_false_iff_not]
    tauto
  exact { h with timers := htimers, decayed := hdecayed }

/-! The PPU's registers and memories. -/

theorem Ppu.Inv.setReadBuffer {u : Ppu} (h : u.Inv) (b : Byte) : ({ u with readBuffer := b } : Ppu).Inv := { h with }

theorem Ppu.Inv.incrementV {u : Ppu} (h : u.Inv) : u.incrementV.Inv := { h with }

theorem Ppu.Inv.writeOamData {u : Ppu} (h : u.Inv) (b : Byte) : (u.writeOamData b).Inv :=
  { h with oam := Mem.wf_write _ h.oam u.oamAddr.isLt }

theorem Ppu.Inv.writeScroll {u : Ppu} (h : u.Inv) (v : Byte) : (u.writeScroll v).Inv := by
  unfold Ppu.writeScroll
  split
  · exact { h with }
  · exact { h with }

theorem Ppu.Inv.writeAddr {u : Ppu} (h : u.Inv) (v : Byte) : (u.writeAddr v).Inv := by
  unfold Ppu.writeAddr
  split
  · exact { h with }
  · exact { h with }

/-- A palette write keeps the entries at 6 bits (20 R92). -/
theorem Ppu.Inv.writePalette {u : Ppu} (h : u.Inv) {i : Nat} (hi : i < 32) (v : Byte) :
    ({ u with palette := u.palette.write i (v &&& 0x3F) } : Ppu).Inv :=
  { h with
    palette := Mem.wf_write _ h.palette hi
    colours := fun p hp => by
      change Mem.read (Mem.write u.palette i (v &&& 0x3F)) p < 64
      rw [Mem.read_write i p _ h.palette]
      split
      · exact and_0x3F_lt v
      · exact h.colours p hp }

/-! The PPU's cycle (60 R263 to R270). -/

/-- A pixel set at a key of the screen keeps the keys rising and on the screen. -/
theorem FrameBuffer.wfFrom_set {f : FrameBuffer} {lo k : Nat} (c : BitVec 32) (h : f.wfFrom lo = true) (hlo : lo ≤ k)
    (hk : k < 256 * 240) : (f.set k c).wfFrom lo = true := by
  induction f generalizing lo with
  | nil => simp [FrameBuffer.set, FrameBuffer.wfFrom, hlo, hk]
  | cons e f ih =>
    obtain ⟨j, d⟩ := e
    simp only [FrameBuffer.wfFrom, Bool.and_eq_true, decide_eq_true_eq] at h
    obtain ⟨⟨h1, h2⟩, h3⟩ := h
    unfold FrameBuffer.set
    split
    case isTrue hlt =>
      simp only [FrameBuffer.wfFrom, Bool.and_eq_true, decide_eq_true_eq]
      exact ⟨⟨hlo, hk⟩, ⟨hlt, h2⟩, h3⟩
    case isFalse hge =>
      split
      case isTrue heq =>
        subst heq
        simp only [FrameBuffer.wfFrom, Bool.and_eq_true, decide_eq_true_eq]
        exact ⟨⟨hlo, hk⟩, h3⟩
      case isFalse hne =>
        simp only [FrameBuffer.wfFrom, Bool.and_eq_true, decide_eq_true_eq]
        exact ⟨⟨h1, h2⟩, ih h3 (by omega)⟩

/-- The pixel of a cycle lies on the screen. -/
theorem Ppu.Inv.pixelEvent {s : State} (h : s.ppu.Inv) : (pixelEvent s).ppu.Inv := by
  simp only [Machine.pixelEvent]
  split
  case isTrue hshown =>
    simp only [Ppu.visible, Bool.and_eq_true, decide_eq_true_eq] at hshown
    obtain ⟨⟨⟨⟨hlo, hhi⟩, -⟩, hfirst⟩, hlast⟩ := hshown
    have hkey : frameKey (s.ppu.cycle - 1) s.ppu.scanline.toNat < 256 * 240 := by
      unfold frameKey
      omega
    exact { h with frame := FrameBuffer.wfFrom_set _ h.frame (Nat.zero_le _) hkey }
  case isFalse => exact h

/-- Sprite evaluation fills secondary OAM with at most eight of the 64 sprites. -/
theorem Ppu.Inv.evaluateSprites {u : Ppu} (h : u.Inv) (line : Int) : (u.evaluateSprites line).Inv := by
  have hlen : (u.evaluateSprites line).secondary.length ≤ 8 := by
    rw [Ppu.evaluateSprites, List.length_map]
    exact List.length_take_le _ _
  have hindex : ∀ e ∈ (u.evaluateSprites line).secondary, e.index < 64 := by
    intro e he
    obtain ⟨i, hi, rfl⟩ := List.mem_map.mp he
    exact List.mem_range.mp (List.mem_of_mem_filter (List.mem_of_mem_take hi))
  exact { h with secondaryLength := hlen, secondaryIndex := hindex }

theorem Ppu.Inv.coarseXEvent {u : Ppu} (h : u.Inv) : (coarseXEvent u).Inv := by
  unfold Machine.coarseXEvent
  split
  · exact { h with }
  · exact h

theorem Ppu.Inv.yEvent {u : Ppu} (h : u.Inv) : (yEvent u).Inv := by
  unfold Machine.yEvent
  split
  · exact { h with }
  · exact h

theorem Ppu.Inv.spriteEvent {u : Ppu} (h : u.Inv) : (spriteEvent u).Inv := by
  unfold Machine.spriteEvent
  split
  · exact h.evaluateSprites _
  · exact h

theorem Ppu.Inv.horizontalEvent {u : Ppu} (h : u.Inv) : (horizontalEvent u).Inv := by
  unfold Machine.horizontalEvent
  split
  · exact { h with }
  · exact h

theorem Ppu.Inv.verticalEvent {u : Ppu} (h : u.Inv) : (verticalEvent u).Inv := by
  unfold Machine.verticalEvent
  split
  · exact { h with }
  · exact h

theorem Ppu.Inv.scrollEvents {u : Ppu} (h : u.Inv) : u.scrollEvents.Inv :=
  h.coarseXEvent.yEvent.spriteEvent.horizontalEvent.verticalEvent

theorem Ppu.Inv.vblankStartEvent {s : State} (h : s.ppu.Inv) : (vblankStartEvent s).ppu.Inv := by
  unfold Machine.vblankStartEvent
  split
  · exact { h with nmiOut := rfl }
  · exact h

theorem Ppu.Inv.vblankEndEvent {s : State} (h : s.ppu.Inv) : (vblankEndEvent s).ppu.Inv := by
  unfold Machine.vblankEndEvent
  split
  · exact { h with nmiOut := rfl }
  · exact h

/-- The position stays in the frame (60 R263). -/
theorem Ppu.Inv.advance {u : Ppu} (h : u.Inv) : u.advance.Inv := by
  have hlow := h.scanlineLow
  have hhigh := h.scanlineHigh
  unfold Ppu.advance
  split
  case isTrue =>
    have hline : -1 ≤ (if 260 < u.scanline + 1 then -1 else u.scanline + 1) ∧
        (if 260 < u.scanline + 1 then -1 else u.scanline + 1) ≤ 260 := by
      split <;> omega
    exact { h with scanlineLow := hline.1, scanlineHigh := hline.2, cycle := Nat.zero_le _ }
  case isFalse hle => exact { h with cycle := Nat.not_lt.mp hle }

theorem Ppu.Inv.ppuStep {s : State} (h : s.ppu.Inv) : (ppuStep s).ppu.Inv := by
  have hpixel : (Machine.pixelEvent s).ppu.scrollEvents.Inv := h.pixelEvent.scrollEvents
  have hevents : (ppuEvents s).ppu.Inv :=
    Ppu.Inv.vblankEndEvent (Ppu.Inv.vblankStartEvent (s := (Machine.pixelEvent s).setPpu _) hpixel)
  exact hevents.openBusTick.advance

/-! The cartridge and the controllers. -/

/-- MMC1's count stays 0 to 4 (20 R77, R78). -/
theorem serialWrite_shiftCount {m : Mmc1} (h : m.shiftCount ≤ 4) (a : Nat) (v : Byte) :
    (m.serialWrite a v).shiftCount ≤ 4 := by
  cases hv : v.getLsbD 7 with
  | true =>
    rw [serialWrite_reset m a hv]
    exact Nat.zero_le _
  | false =>
    by_cases hc : m.shiftCount = 4
    · rw [serialWrite_load a hv hc]
      exact Nat.zero_le _
    · rw [serialWrite_shift a hv hc]
      change m.shiftCount + 1 ≤ 4
      omega

theorem Cartridge.Inv.write {c : Cartridge} (h : c.Inv) (a : Nat) (v : Byte) : (c.write a v).Inv := by
  unfold Cartridge.write
  split
  · exact h
  · exact { h with shiftCount := serialWrite_shiftCount h.shiftCount a v }

theorem Cartridge.Inv.writeChr {c : Cartridge} (h : c.Inv) {a : Nat} (ha : a < 0x2000) (v : Byte) :
    (c.writeChr a v).Inv := by
  rw [writeChr_eq]
  split
  · exact { h with chr := Mem.wf_write _ h.chr (chrOffset_lt c ha) }
  · exact h

theorem Cartridge.Inv.writePrgRam {c : Cartridge} (h : c.Inv) (hp : c.hasPrgRam = true) {o : Nat} (ho : o < 0x2000)
    (v : Byte) : ({ c with prgRam := c.prgRam.write o v } : Cartridge).Inv := by
  have hsize : o < if c.hasPrgRam then 0x2000 else 0 := by rwa [if_pos hp]
  exact { h with prgRam := Mem.wf_write _ h.prgRam hsize }

theorem Pads.Inv.read1 {d : Pads} (h : d.Inv) : d.read1.2.Inv := by
  unfold Pads.read1
  split
  case isTrue => exact { h with latch1 := fun _ => rfl }
  case isFalse hs => exact { h with latch1 := fun hs' => absurd hs' hs }

theorem Pads.Inv.read2 {d : Pads} (h : d.Inv) : d.read2.2.Inv := by
  unfold Pads.read2
  split
  case isTrue => exact { h with latch2 := fun _ => rfl }
  case isFalse hs => exact { h with latch2 := fun hs' => absurd hs' hs }

theorem Pads.Inv.writeStrobe {d : Pads} (h : d.Inv) (v : Byte) : (d.writeStrobe v).Inv := by
  unfold Pads.writeStrobe Pads.latch
  split
  case isTrue => exact ⟨h.buttons2, fun _ => rfl, fun _ => rfl⟩
  case isFalse hs => exact ⟨h.buttons2, fun hs' => absurd hs' hs, fun hs' => absurd hs' hs⟩

/-! The bus. -/

theorem State.Inv.setRam {s : State} (h : s.Inv) {m : Mem} (hm : m.wf 0x800 = true) : (s.setRam m).Inv :=
  { h with ram := hm }

theorem State.Inv.setCart {s : State} (h : s.Inv) {c : Cartridge} (hc : c.Inv) : (s.setCart c).Inv :=
  { h with cart := hc }

theorem State.Inv.setPpu {s : State} (h : s.Inv) {u : Ppu} (hu : u.Inv) : (s.setPpu u).Inv := { h with ppu := hu }

theorem State.Inv.setPads {s : State} (h : s.Inv) {d : Pads} (hd : d.Inv) : (s.setPads d).Inv := { h with pads := hd }

theorem State.Inv.draw {s : State} (h : s.Inv) : s.draw.2.Inv := { h with }

/-- The NMI output follows vblank and the enable bit, whatever it was (60 R234). -/
theorem State.Inv.updateNmiOut {s : State} (h : s.Inv) {u : Ppu}
    (hu : ({ u with nmiOut := u.vblank && u.ctrl.getLsbD 7 } : Ppu).Inv) : (updateNmiOut (s.setPpu u)).Inv :=
  { h with ppu := hu }

theorem State.Inv.ppuReadReg {s : State} (h : s.Inv) (r : PpuReg) : (ppuReadReg r s).2.Inv := by
  cases r with
  | status => exact h.updateNmiOut { h.ppu.refresh 0xE0 s.ppu.statusByte with nmiOut := rfl }
  | oamData => exact h.setPpu (h.ppu.refresh _ _)
  | data =>
    simp only [Machine.ppuReadReg, readData]
    split
    · exact h
    · exact h.setPpu ((h.ppu.setReadBuffer _).incrementV.refresh _ _)
  | ctrl | mask | oamAddr | scroll | addr => exact h

theorem State.Inv.memRead {s : State} (h : s.Inv) (a : Word) : (memRead a s).2.Inv := by
  unfold Machine.memRead
  cases s.device a with
  | ppu r => exact h.ppuReadReg r
  | oamDma | apu | unmapped => exact h.draw
  | pad1 => exact h.draw.setPads h.pads.read1
  | pad2 => exact h.draw.setPads h.pads.read2
  | ram | prgRam | cartridge => exact h

theorem State.Inv.ppuWrite {s : State} (h : s.Inv) (a : Word) (v : Byte) : (ppuWrite a v s).Inv := by
  by_cases h1 : a.toNat % 0x4000 < 0x2000
  · rw [ppuWrite_pattern v h1]
    exact h.setCart (h.cart.writeChr h1 v)
  · by_cases h2 : a.toNat % 0x4000 < 0x3F00
    · rw [ppuWrite_nametable v (Nat.not_lt.mp h1) h2]
      exact h.setPpu { h.ppu with vram := Mem.wf_write _ h.ppu.vram (vramIndex_lt _ _) }
    · rw [ppuWrite_palette v (Nat.not_lt.mp h2)]
      exact h.setPpu (h.ppu.writePalette (paletteIndex_lt _) v)

theorem State.Inv.ppuWriteReg {s : State} (h : s.Inv) (r : PpuReg) (v : Byte) : (ppuWriteReg r v s).Inv := by
  have hu := h.ppu.refresh 0xFF v
  have hs := h.setPpu hu
  cases r with
  | ctrl => exact hs.updateNmiOut { hu with nmiOut := rfl }
  | mask => exact hs.setPpu { hu with }
  | status => exact hs
  | oamAddr => exact hs.setPpu { hu with }
  | oamData => exact hs.setPpu (hu.writeOamData v)
  | scroll => exact hs.setPpu (hu.writeScroll v)
  | addr => exact hs.setPpu (hu.writeAddr v)
  | data =>
    have hw := hs.ppuWrite (s.ppu.refresh 0xFF v).address v
    exact hw.setPpu hw.ppu.incrementV

theorem State.Inv.oamDma {s : State} (h : s.Inv) (pageNo : Byte) : (oamDma pageNo s).Inv := by
  obtain ⟨oam, draws, heq, hwf, -⟩ := oamDma_eq pageNo h.ppu.oam
  rw [heq]
  exact { h with ppu := { h.ppu with oam := hwf, dmaActive := rfl } }

theorem State.Inv.memWrite {s : State} (h : s.Inv) (a : Word) (v : Byte) : (memWrite a v s).Inv := by
  unfold Machine.memWrite
  cases hd : s.device a with
  | ram o =>
    obtain ⟨-, rfl⟩ := device_eq_ram hd
    exact h.setRam (Mem.wf_write v h.ram (Nat.mod_lt _ (by decide)))
  | ppu r => exact h.ppuWriteReg r v
  | oamDma => exact h.oamDma v
  | pad1 => exact h.setPads (h.pads.writeStrobe v)
  | pad2 | apu | unmapped => exact h
  | prgRam o =>
    obtain ⟨-, hhi, hp, ho⟩ := device_eq_prgRam hd
    have hlt : o < 0x2000 := by omega
    exact h.setCart (h.cart.writePrgRam hp hlt v)
  | cartridge => exact h.setCart (h.cart.write _ v)

/-- Every update of a step keeps the invariant. -/
theorem inv_stepClosed : StepClosed State.Inv where
  setA _ h := { h with }
  setX _ h := { h with }
  setY _ h := { h with }
  setSp _ h := { h with }
  setPc _ h := { h with }
  setP _ h := { h with }
  setPageCrossed _ h := { h with }
  setBranchTaken _ h := { h with }
  memRead a h := h.memRead a
  memWrite a v h := h.memWrite a v
  setDmaStall _ h := { h with }
  setNmiPending h := { h with }
  setFault _ h := { h with }
  nextInput h := { h with }
  setTotalCycles _ h := { h with }
  ppuStep {s} h := ⟨(ppuStep_ram s).symm ▸ h.ram, (ppuStep_cart s).symm ▸ h.cart, h.ppu.ppuStep,
    (ppuStep_pads s).symm ▸ h.pads⟩

end Sys2Proof.Machine

open Sys2Proof Sys2Proof.Machine Sys2Proof.Claims

/-- Settles O57: each update that a step is made of keeps the invariant. -/
theorem everyStepKeepsTheInvariant : Obligations.EveryStepKeepsTheInvariant :=
  fun _ _ hs ht => inv_stepClosed.keeps hs ht

end

section
/-! The PPU keeps step with the CPU (20 R67; 40 R123; 60 R263, R290). -/

namespace Sys2Proof.Machine

/-! A CPU step does not move the PPU. -/

@[simp] theorem memRead_ppu_position (a : Word) (s : State) : (memRead a s).2.ppu.position = s.ppu.position := by
  simp only [Ppu.position, memRead_ppu_scanline, memRead_ppu_cycle]

theorem ppuWriteReg_ppu_position (r : PpuReg) (v : Byte) (s : State) :
    (ppuWriteReg r v s).ppu.position = s.ppu.position := by
  cases r with
  | scroll =>
    simp only [ppuWriteReg, Ppu.writeScroll]
    split <;> rfl
  | addr =>
    simp only [ppuWriteReg, Ppu.writeAddr]
    split <;> rfl
  | data => simp [ppuWriteReg, writeData, Ppu.position]
  | ctrl | mask | status | oamAddr | oamData => rfl

theorem memWrite_ppu_position {s : State} (h : s.Inv) (a : Word) (v : Byte) :
    (memWrite a v s).ppu.position = s.ppu.position := by
  unfold memWrite
  cases s.device a with
  | ppu r => exact ppuWriteReg_ppu_position r v s
  | oamDma =>
    obtain ⟨oam, draws, heq, -⟩ := oamDma_eq v h.ppu.oam
    simp only [heq]
    rfl
  | ram | pad1 | pad2 | apu | unmapped | prgRam | cartridge => rfl

/-- The PPU is where it was, and no cycle has been counted yet. -/
def BeforeCatchUp (s t : State) : Prop :=
  t.Inv ∧ t.ppu.position = s.ppu.position ∧ t.totalCycles = s.totalCycles

theorem beforeCatchUp_cpuClosed (s : State) : CpuClosed (BeforeCatchUp s) where
  setA v h := h.imp_left (inv_stepClosed.setA v)
  setX v h := h.imp_left (inv_stepClosed.setX v)
  setY v h := h.imp_left (inv_stepClosed.setY v)
  setSp v h := h.imp_left (inv_stepClosed.setSp v)
  setPc v h := h.imp_left (inv_stepClosed.setPc v)
  setP v h := h.imp_left (inv_stepClosed.setP v)
  setPageCrossed v h := h.imp_left (inv_stepClosed.setPageCrossed v)
  setBranchTaken v h := h.imp_left (inv_stepClosed.setBranchTaken v)
  memRead a h := ⟨h.1.memRead a, (memRead_ppu_position a _).trans h.2.1, (memRead_totalCycles a _).trans h.2.2⟩
  memWrite a v h :=
    ⟨h.1.memWrite a v, (memWrite_ppu_position h.1 a v).trans h.2.1, (memWrite_totalCycles a v _).trans h.2.2⟩
  setDmaStall v h := h.imp_left (inv_stepClosed.setDmaStall v)
  setNmiPending h := h.imp_left inv_stepClosed.setNmiPending
  setFault v h := h.imp_left (inv_stepClosed.setFault v)

/-! The position counts PPU cycles, modulo the frame. -/

theorem Ppu.Inv.position_lt {u : Ppu} (h : u.Inv) : u.position < 89342 := by
  have hlow := h.scanlineLow
  have hhigh := h.scanlineHigh
  have hcycle := h.cycle
  unfold Ppu.position
  omega

theorem ppuStep_ppu_position {s : State} (h : s.ppu.Inv) :
    (ppuStep s).ppu.position = (s.ppu.position + 1) % 89342 := by
  have hlow := h.scanlineLow
  have hhigh := h.scanlineHigh
  have hcycle := h.cycle
  rw [Ppu.position, ppuStep_ppu_scanline, ppuStep_ppu_cycle, Ppu.position]
  split_ifs <;> omega

theorem ppuSteps_ppu_position {s : State} (h : s.Inv) (n : Nat) :
    (ppuSteps n s).ppu.position = (s.ppu.position + n) % 89342 := by
  induction n generalizing s with
  | zero => rw [ppuSteps, Nat.add_zero, Nat.mod_eq_of_lt h.ppu.position_lt]
  | succ n ih =>
    rw [ppuSteps, ih (inv_stepClosed.ppuStep h), ppuStep_ppu_position h.ppu]
    omega

/-- A system step is a CPU step and its catch-up. -/
theorem CpuClosed.systemStep_next {P : State → Prop} (h : CpuClosed P) {s t : State} (hs : P s.nextInput)
    (ht : systemStep s = .next t) : ∃ c u, P u ∧ t = catchUp c u := by
  obtain ⟨c, u, hu, hp⟩ := h.cpuStep s.irqLevel hs
  refine ⟨c, u, hp, ?_⟩
  cases hf : s.fault with
  | none => simpa [systemStep, hf, hu] using ht.symm
  | some r => simp [systemStep, hf] at ht

/-! What no step changes in a cartridge: all that its power-on does not set anew (20 R70). -/

theorem writeChr_powerOn (c : Cartridge) (a : Nat) (v : Byte) : (c.writeChr a v).powerOn [] [] = c.powerOn [] [] := by
  rw [writeChr_eq]
  split
  case isTrue h => simp only [Cartridge.powerOn, Cartridge.chrIsRam, h, beq_self_eq_true, if_true]
  case isFalse => rfl

theorem memWrite_cart_powerOn (a : Word) (v : Byte) (s : State) :
    (memWrite a v s).cart.powerOn [] [] = s.cart.powerOn [] [] := by
  unfold memWrite
  cases s.device a with
  | ppu r =>
    cases r with
    | data =>
      simp only [ppuWriteReg, writeData, setPpu_cart, ppuWrite]
      split
      · exact writeChr_powerOn _ _ _
      · split <;> rfl
    | _ => rfl
  | oamDma => rw [oamDma_cart]
  | cartridge =>
    simp only [setCart_cart, Cartridge.write]
    split <;> rfl
  | _ => rfl

theorem cart_powerOn_stepClosed (c : Cartridge) : StepClosed fun t => t.cart.powerOn [] [] = c.powerOn [] [] where
  setA _ h := h
  setX _ h := h
  setY _ h := h
  setSp _ h := h
  setPc _ h := h
  setP _ h := h
  setPageCrossed _ h := h
  setBranchTaken _ h := h
  memRead a h := by rwa [memRead_cart]
  memWrite a v h := (memWrite_cart_powerOn a v _).trans h
  setDmaStall _ h := h
  setNmiPending h := h
  setFault _ h := h
  nextInput h := h
  setTotalCycles _ h := h
  ppuStep h := by rwa [ppuStep_cart]

end Sys2Proof.Machine

open Sys2Proof Sys2Proof.Machine Sys2Proof.Claims

/-- Settles O58: the CPU's part of a step leaves the position, and its catch-up moves it by 3 for each cycle counted. -/
theorem everyStepKeepsThePpuInLockstep : Obligations.EveryStepKeepsThePpuInLockstep := by
  intro s t hs ht
  obtain ⟨c, u, ⟨hinv, hposition, hcycles⟩, rfl⟩ :=
    (beforeCatchUp_cpuClosed s).systemStep_next (s := s) ⟨inv_stepClosed.nextInput hs, rfl, rfl⟩ ht
  have htotal : (catchUp c u).totalCycles = s.totalCycles + c := by
    rw [catchUp, ppuSteps_totalCycles, setTotalCycles_totalCycles, hcycles]
  have hmoved : (catchUp c u).ppu.position = (s.ppu.position + 3 * c) % 89342 := by
    rw [catchUp, ppuSteps_ppu_position (inv_stepClosed.setTotalCycles _ hinv), setTotalCycles_ppu, hposition]
  rw [htotal, hmoved]
  omega

/-- Settles O38: ROM and header are what power-on would keep, and every update of a step keeps that. -/
theorem romNeverChanges : Obligations.RomNeverChanges := by
  intro s t ht
  have hrom : t.cart.powerOn [] [] = s.cart.powerOn [] [] := (cart_powerOn_stepClosed s.cart).keeps rfl ht
  have hbanks : t.cart.chrBanks = s.cart.chrBanks := (congrArg Cartridge.chrBanks hrom :)
  have hchr : 0 < s.cart.chrBanks → t.cart.chr = s.cart.chr := fun h => by
    rw [← cartridge_powerOn_chr h [] [], ← hrom, cartridge_powerOn_chr (hbanks ▸ h)]
  exact ⟨(congrArg Cartridge.prg hrom :), hchr, (congrArg Cartridge.mapper hrom :), (congrArg Cartridge.prgBanks hrom :), hbanks,
    (congrArg Cartridge.hasPrgRam hrom :), (congrArg Cartridge.verticalMirroring hrom :)⟩

end

section
/-! The decoder and the encoder (30 R100 to R103). -/

namespace Sys2Proof

/-! What the decoder reads: the opcode byte's entry, and as many operand bytes as the entry's mode has. -/

theorem decode_eq_unimplementedOpcode {opcode : Byte} (h : table opcode = none) (rest : List Byte) :
    decode (opcode :: rest) = .error (.unimplementedOpcode opcode) := by
  simp only [decode, h]

theorem Mode.operandLength_le_two (m : Mode) : m.operandLength ≤ 2 := by
  cases m <;> decide

theorem decode_eq_ok_iff {bs rest : List Byte} {i : Instr} :
    decode bs = .ok (i, rest) ↔ ∃ opcode row operands, table opcode = some row ∧
      operands.length = row.mode.operandLength ∧ bs = opcode :: (operands ++ rest) ∧
      i = row.make (operands.getD 0 0) (operands.getD 1 0) := by
  constructor
  · intro h
    unfold decode at h
    split at h
    · cases h
    next opcode tail =>
      split at h
      · cases h
      next row hrow =>
        split at h
        next hlen =>
          cases h
          exact ⟨opcode, row, [], hrow, hlen.symm, rfl, rfl⟩
        next b1 _ hlen =>
          cases h
          exact ⟨opcode, row, [b1], hrow, hlen.symm, rfl, rfl⟩
        next b1 b2 _ hlen =>
          cases h
          exact ⟨opcode, row, [b1, b2], hrow, hlen.symm, rfl, rfl⟩
        next => cases h
  · rintro ⟨opcode, row, operands, hrow, hlen, rfl, rfl⟩
    have hle := row.mode.operandLength_le_two
    simp only [decode, hrow, ← hlen]
    match operands, hlen with
    | [], _ => rfl
    | [_], _ => rfl
    | [_, _], _ => rfl
    | _ :: _ :: _ :: _, hlen =>
      simp only [List.length_cons] at hlen
      omega

/-! The operand that a mode reads from its bytes, encoded again. -/

theorem encodeWord_word (hi lo : Byte) : encodeWord (word hi lo) = [lo, hi] := by
  rw [encodeWord, loByte_word, hiByte_word]

theorem encodeOffset_operandOffset (b : Byte) : encodeOffset (operandOffset b) = [b] := by
  rw [encodeOffset, operandOffset, BitVec.ofInt_toInt]

theorem offsetInRange_operandOffset (b : Byte) : offsetInRange (operandOffset b) = true := by
  have hlow : -128 ≤ operandOffset b := BitVec.le_toInt b
  have hhigh : operandOffset b < 128 := BitVec.toInt_lt
  simp only [offsetInRange, Bool.and_eq_true, decide_eq_true_eq]
  omega

/-- The encoding of the operand that the mode reads from the bytes `b1` and `b2`. -/
def Mode.reencode (b1 b2 : Byte) : Mode → List Byte
  | .implied | .accumulator => []
  | .relative => encodeOffset (operandOffset b1)
  | .absolute | .absoluteX | .absoluteY | .indirect => encodeWord (word b2 b1)
  | .immediate | .zeroPage | .zeroPageX | .zeroPageY | .indexedIndirectX | .indirectIndexedY => [b1]

/-- Whether the operand that the mode reads from the byte `b1` is in the range of the mode. -/
def Mode.operandInRange (b1 : Byte) : Mode → Bool
  | .relative => offsetInRange (operandOffset b1)
  | _ => true

theorem Mode.reencode_eq {m : Mode} {operands : List Byte} (h : operands.length = m.operandLength) :
    m.reencode (operands.getD 0 0) (operands.getD 1 0) = operands := by
  cases m with
  | implied | accumulator => exact (List.eq_nil_of_length_eq_zero h).symm
  | relative =>
    obtain ⟨b, rfl⟩ := List.length_eq_one_iff.mp h
    exact encodeOffset_operandOffset b
  | absolute | absoluteX | absoluteY | indirect =>
    obtain ⟨b1, b2, rfl⟩ := List.length_eq_two.mp h
    exact encodeWord_word b2 b1
  | immediate | zeroPage | zeroPageX | zeroPageY | indexedIndirectX | indirectIndexedY =>
    obtain ⟨b, rfl⟩ := List.length_eq_one_iff.mp h
    rfl

theorem Mode.operandInRange_eq_true (b1 : Byte) (m : Mode) : m.operandInRange b1 = true := by
  cases m with
  | relative => exact offsetInRange_operandOffset b1
  | _ => rfl

/-! What an entry makes, encoded again. The entries of a row of the opcode map are compared side by side, as two lists:
what each makes, and what its opcode byte and mode say of that. -/

theorem encode_make_of_mem_tableRow (b1 b2 : Byte) (n : Nat) : ∀ row ∈ tableRow n,
    (encode (row.make b1 b2), (row.make b1 b2).wellFormed) =
      (row.opcode :: row.mode.reencode b1 b2, row.mode.operandInRange b1) := by
  refine List.map_inj_left.mp ?_
  unfold tableRow
  split <;> rfl

theorem encode_make_of_table {opcode : Byte} {row : TableRow} {operands : List Byte} (hrow : table opcode = some row)
    (hlen : operands.length = row.mode.operandLength) :
    encode (row.make (operands.getD 0 0) (operands.getD 1 0)) = opcode :: operands ∧
      (row.make (operands.getD 0 0) (operands.getD 1 0)).wellFormed = true := by
  unfold table at hrow
  have hopcode : row.opcode = opcode := by simpa using List.find?_some hrow
  have hmem := List.mem_of_find?_eq_some hrow
  obtain ⟨hencode, hwf⟩ := Prod.mk.inj <|
    encode_make_of_mem_tableRow (operands.getD 0 0) (operands.getD 1 0) _ row hmem
  exact ⟨by rw [hencode, hopcode, Mode.reencode_eq hlen], by rw [hwf, Mode.operandInRange_eq_true]⟩

end Sys2Proof

open Sys2Proof Sys2Proof.Machine Sys2Proof.Claims

/-- Settles O1: the table's entry for the instruction's opcode byte makes it again from its operand bytes. -/
theorem decodeInvertsEncode : Obligations.DecodeInvertsEncode := by
  intro i rest hwf
  obtain ⟨row, hrow, -, hlen, hmake⟩ := tableAgrees i
  exact decode_eq_ok_iff.mpr ⟨i.opcode, row, i.operandBytes, hrow, hlen.symm, rfl, (hmake hwf).symm⟩

/-- Settles O2: what an entry makes is encoded as the bytes it was made from. -/
theorem encodeInvertsDecode : Obligations.EncodeInvertsDecode := by
  intro bs rest i h
  obtain ⟨opcode, row, operands, hrow, hlen, rfl, rfl⟩ := decode_eq_ok_iff.mp h
  obtain ⟨hencode, hwf⟩ := encode_make_of_table hrow hlen
  exact ⟨by rw [hencode, List.cons_append], hwf⟩

/-- Settles O3: the table and the map agree on each of the 256 bytes, and each sample word is decoded. -/
theorem opcodeMapAndSampleWordsDecode : Obligations.OpcodeMapAndSampleWordsDecode :=
  ⟨by decide +kernel, rfl, rfl, rfl, rfl, rfl, rfl, rfl, rfl, rfl, rfl, rfl, rfl, rfl⟩

end

section
/-! The step that fetches a byte with no instruction (30 R108; 60 R231, R232). -/

namespace Sys2Proof.Claims

open Sys2Proof.Machine

theorem table_eq_none_iff : ∀ opcode : Byte, table opcode = none ↔ opcode.toNat ∈ invalidBytes := by
  decide +kernel

theorem step_eq_fault {s : State} {r : Fault} (h : s.fault = some r) : step s = .fault r := by
  rw [step, systemStep, h]

/-- Neither interrupt is taken, so the CPU step is the instruction at PC. -/
theorem RunsInstruction.cpuStep_eq {s : State} (h : RunsInstruction s) :
    cpuStep s.irqLevel (polled s) = runInstruction (polled s) := by
  have hnmi : (polled s).nmiPending = false := h.nmi
  have hirq : (!(polled s).p.i && s.irqLevel) = false := by
    rcases h.irq with hi | hl
    · rw [show (polled s).p.i = true from hi, Bool.not_true, Bool.false_and]
    · rw [hl, Bool.and_false]
  rw [cpuStep, hnmi, hirq]
  rfl

theorem RunsInstruction.step_eq_next {s t : State} {c : Nat} (h : RunsInstruction s)
    (ht : runInstruction (polled s) = .next (c, t)) : step s = .next (catchUp c t) := by
  have hcpu : cpuStep s.irqLevel s.nextInput = .next (c, t) := h.cpuStep_eq.trans ht
  rw [step, systemStep, h.fault, hcpu]

theorem runInstruction_of_table_eq_none {s : State} (h : table (memRead s.pc s).1 = none) :
    runInstruction s = .next (0, ((memRead s.pc s).2.setPc (s.pc + 1)).setFault
      (some (.unimplementedOpcode (memRead s.pc s).1 s.pc))) := by
  simp only [runInstruction, fetchByte, h, memRead_pc]

end Sys2Proof.Claims

open Sys2Proof Sys2Proof.Machine Sys2Proof.Claims

/-- Settles O5: such a byte has no entry, so that the step ends with the fetch, and the recorded fault answers the next
one. -/
theorem unimplementedOpcodeStopsTheMachine : Obligations.UnimplementedOpcodeStopsTheMachine := by
  refine ⟨table_eq_none_iff, fun b rest hb => decode_eq_unimplementedOpcode ((table_eq_none_iff b).mpr hb) rest,
    fun s hs hb => ?_, fun _ _ => step_eq_fault⟩
  have hrun := runInstruction_of_table_eq_none (s := polled s) ((table_eq_none_iff _).mpr hb)
  have hregisters := registers_memRead s.pc (polled s)
  exact ⟨_, hs.step_eq_next hrun, rfl, congrArg (fun r => { r with pc := s.pc + 1 }) hregisters,
    fun b => memRead_peek s.pc b (polled s), memRead_totalCycles s.pc (polled s)⟩

end

section
/-! The effective address of each addressing mode, in numbers (40 R128 to R139). -/

namespace Sys2Proof.Claims

open Sys2Proof.Machine

theorem zext16_eq_address (v : Byte) : zext16 v = address v.toNat := by
  have hv := v.isLt
  apply BitVec.eq_of_toNat_eq
  rw [zext16_toNat, address, BitVec.toNat_ofNat, Nat.mod_eq_of_lt (by omega)]

/-- The 16-bit wrap of an indexed address (40 R134, R135). -/
theorem add_zext16_eq_address (base : Word) (index : Byte) :
    base + zext16 index = address (base.toNat + index.toNat) := by
  apply BitVec.eq_of_toNat_eq
  rw [BitVec.toNat_add, zext16_toNat, address, BitVec.toNat_ofNat]

/-- The zero-page wrap of an indexed address (40 R130, R131). -/
theorem zext16_add_eq_address (z index : Byte) : zext16 (z + index) = address ((z.toNat + index.toNat) % 256) := by
  rw [zext16_eq_address, BitVec.toNat_add]

theorem zeroPagePointer_mod (s : State) (z : Nat) : zeroPagePointer s (z % 256) = zeroPagePointer s z := by
  rw [zeroPagePointer, zeroPagePointer, Nat.mod_mod, Nat.mod_add_mod]

/-- Both bytes of a zero-page pointer come from page 0 (20 R51). -/
theorem read16Zp_eq_zeroPagePointer (z : Byte) (s : State) : read16Zp z s = (zeroPagePointer s z.toNat, s) := by
  rw [read16Zp_eq, word_eq_fromBytes, zeroPagePointer, BitVec.toNat_add, Nat.mod_eq_of_lt z.isLt]
  rfl

/-- The pointer's own address wraps in page 0 when it is indexed (40 R137). -/
theorem read16Zp_add_eq_zeroPagePointer (z index : Byte) (s : State) :
    read16Zp (z + index) s = (zeroPagePointer s (z.toNat + index.toNat), s) := by
  rw [read16Zp_eq_zeroPagePointer, BitVec.toNat_add, zeroPagePointer_mod]

theorem page_toNat (w : Word) : (page w).toNat = 256 * pageOf w := by
  have hw := w.isLt
  have hmask : (0xFF00 : Word) = BitVec.allOnes 16 <<< 8 := by decide
  rw [page, hmask, ← BitVec.shiftLeft_ushiftRight, BitVec.toNat_shiftLeft, BitVec.toNat_ushiftRight,
    Nat.shiftLeft_eq, Nat.shiftRight_eq_div_pow, pageOf]
  omega

theorem page_eq_page_iff (a b : Word) : page a = page b ↔ pageOf a = pageOf b := by
  rw [← BitVec.toNat_inj, page_toNat, page_toNat, Nat.mul_right_inj (by decide)]

/-- An indexed address, and the page cross that it detects (40 R126). -/
theorem indexed_eq (base : Word) (index : Byte) (s : State) :
    indexed base index s =
      (.mem (address (base.toNat + index.toNat)), s.setPageCrossed (leavesPage base index)) := by
  have hcross (ea : Word) : (page base != page ea) = decide (pageOf base ≠ pageOf ea) := by
    rw [Bool.eq_iff_iff, bne_iff_ne, decide_eq_true_eq, Ne, page_eq_page_iff]
  simp only [indexed, add_zext16_eq_address, hcross, leavesPage]

end Sys2Proof.Claims

open Sys2Proof Sys2Proof.Machine Sys2Proof.Claims

/-- Settles O23, mode by mode: three of them index a base address and detect a page cross, two read a pointer. -/
theorem operandsAreLocated : Obligations.OperandsAreLocated := by
  intro o s
  cases o with
  | accumulator | immediate v | absolute a => rfl
  | zeroPage z => exact congrArg (fun ea => (Loc.mem ea, s)) (zext16_eq_address z)
  | zeroPageX z => exact congrArg (fun ea => (Loc.mem ea, s)) (zext16_add_eq_address z s.x)
  | zeroPageY z => exact congrArg (fun ea => (Loc.mem ea, s)) (zext16_add_eq_address z s.y)
  | absoluteX a => exact indexed_eq a s.x s
  | absoluteY a => exact indexed_eq a s.y s
  | indirectX z =>
    rw [locate, read16Zp_add_eq_zeroPagePointer]
    rfl
  | indirectY z =>
    rw [locate, read16Zp_eq_zeroPagePointer]
    exact indexed_eq (zeroPagePointer s z.toNat) s.y s

end

section
/-! The step that runs the instruction at PC (40 R120 to R123, R125). -/

namespace Sys2Proof.Claims

open Sys2Proof.Machine

/-! The fetch of an instruction's bytes. -/

theorem address_add_one (n : Nat) : address (n + 1) = 1 + address n := by
  rw [address, address, Nat.add_comm, BitVec.ofNat_add]
  rfl

theorem CodeAtPc.head {s : State} {b : Byte} {bs : List Byte} (h : CodeAtPc s (b :: bs)) : s.peek s.pc = some b := by
  simpa [address] using h 0 (Nat.zero_lt_succ _)

theorem CodeAtPc.tail {s : State} {b : Byte} {bs : List Byte} (h : CodeAtPc s (b :: bs)) :
    CodeAtPc (s.setPc (s.pc + 1)) bs := by
  intro k hk
  have hbyte := h (k + 1) (Nat.succ_lt_succ hk)
  rwa [address_add_one, ← BitVec.add_assoc] at hbyte

theorem CodeAtPc.fetchByte_eq {s : State} {b : Byte} {bs : List Byte} (h : CodeAtPc s (b :: bs)) :
    fetchByte s = (b, s.setPc (s.pc + 1)) := by
  rw [fetchByte, memRead_of_peek h.head]

theorem CodeAtPc.fetchOperands_eq {s : State} {bs : List Byte} (h : CodeAtPc s bs) (hlen : bs.length ≤ 2) :
    fetchOperands bs.length s = ((bs.getD 0 0, bs.getD 1 0), s.setPc (s.pc + address bs.length)) := by
  match bs, hlen with
  | [], _ =>
    rw [List.length_nil, show address 0 = 0#16 from rfl, BitVec.add_zero]
    rfl
  | [b1], _ =>
    simp only [List.length_singleton, fetchOperands, h.fetchByte_eq]
    rfl
  | [b1, b2], _ =>
    simp only [List.length_cons, fetchOperands, h.fetchByte_eq, h.tail.fetchByte_eq, setPc_pc, BitVec.add_assoc]
    rfl

/-! The instruction, its meaning and its count. -/

/-- No instruction's meaning changes what `kept` holds. -/
theorem kept_closed (k : Kept) : Closed fun t => kept t = k where
  setA _ h := h
  setX _ h := h
  setY _ h := h
  setSp _ h := h
  setPc _ h := h
  setP _ h := h
  setPageCrossed _ h := h
  setBranchTaken _ h := h
  memRead _ h := by simpa [kept] using h
  memWrite _ _ h := by simpa [kept] using h

theorem exec_eq_next (i : Instr) (s : State) : ∃ t, exec i s = .next t ∧ kept t = kept s :=
  (kept_closed (kept s)).exec i rfl

/-- The count of the table entry and the state, as the statements write it (40 R122). -/
theorem cycles_eq_cycleCount (row : TableRow) (t : State) : cycles row t = cycleCount row t := by
  unfold cycles cycleCount
  cases t.branchTaken <;> cases t.pageCrossed <;> simp

theorem execute_of_codeAtPc {i : Instr} {row : TableRow} {s t : State} (hwf : i.wellFormed = true)
    (hrow : table i.opcode = some row) (hcode : CodeAtPc s i.operandBytes)
    (ht : exec i (s.setPc (s.pc + address i.operandBytes.length)) = .next t) :
    execute row s = .next (cycles row t, t) := by
  obtain ⟨row', hrow', -, hlen, hmake⟩ := tableAgrees i
  obtain rfl : row' = row := Option.some.inj (hrow'.symm.trans hrow)
  have hle : i.operandBytes.length ≤ 2 := hlen ▸ row'.mode.operandLength_le_two
  simp only [execute, hlen, hcode.fetchOperands_eq hle, hmake hwf, ht]

/-- The instruction whose bytes stand at PC runs from the state past them (40 R120, R121). -/
theorem runInstruction_of_codeAtPc {i : Instr} {row : TableRow} {s t : State} (hwf : i.wellFormed = true)
    (hrow : table i.opcode = some row) (hcode : CodeAtPc s (encode i))
    (ht : exec i (s.setPc (s.pc + address (encode i).length)).beginInstruction = .next t) :
    runInstruction s = .next (cycles row t, t) := by
  have hoperands : CodeAtPc (s.setPc (s.pc + 1)).beginInstruction i.operandBytes := CodeAtPc.tail hcode
  rw [encode, List.length_cons, address_add_one, ← BitVec.add_assoc] at ht
  simp only [runInstruction, CodeAtPc.fetchByte_eq hcode, hrow]
  exact execute_of_codeAtPc hwf hrow hoperands ht

end Sys2Proof.Claims

open Sys2Proof Sys2Proof.Machine Sys2Proof.Claims

/-- Settles O4: neither interrupt is taken, and the bytes fetched make the instruction again. -/
theorem stepRunsDecodedInstruction : Obligations.StepRunsDecodedInstruction := by
  intro i row s hwf hrow hs hcode
  obtain ⟨t, ht, -⟩ := exec_eq_next i (started (encode i).length s)
  have hrun := runInstruction_of_codeAtPc (s := polled s) hwf hrow hcode ht
  rw [hs.step_eq_next hrun, ht, cycles_eq_cycleCount]
  rfl

end

section
/-! The operand that an instruction reads and the byte that one stores (40 R140). -/

namespace Sys2Proof.Claims

open Sys2Proof.Machine

/-- What the entry of an instruction's opcode byte says, whatever its mnemonic and what it makes (30 R105). -/
theorem row_of_table {i : Instr} {op : Byte} {opcode length cycles : Nat} {mode : Mode} {mayCross : Bool} {m : Mnemonic}
    {make : Byte → Byte → Instr} (hopcode : i.opcode.toNat = opcode) (hlen : (encode i).length = length)
    (h : table (byte opcode) = some ⟨op, m, mode, cycles, mayCross, make⟩) :
    Row i opcode mode length cycles mayCross := by
  have hbyte : byte opcode = i.opcode := by rw [← hopcode, byte, BitVec.ofNat_toNat, BitVec.setWidth_eq]
  exact ⟨hopcode, hlen, _, hbyte ▸ h, rfl, rfl, rfl⟩

/-! The registers after a read. -/

/-- A state with other registers. -/
def withRegisters (r : Registers) (s : State) : State :=
  { s with a := r.a, x := r.x, y := r.y, sp := r.sp, pc := r.pc, p := r.p }

/-- The model's `updateZN` sets the flags that the statements write (40 R141). -/
theorem state_updateZN_eq_zn (v : Byte) (s : State) : s.updateZN v = { s with p := zn v s.p } :=
  congrArg s.setP (updateZN_eq_zn v s.p)

/-! The read of an operand: one read at its place, which leaves registers and memory. -/

theorem readLoc_setPageCrossed (l : Loc) (b : Bool) (s : State) :
    readLoc l (s.setPageCrossed b) = ((readLoc l s).1, (readLoc l s).2.setPageCrossed b) := by
  cases l with
  | regA | imm v => rfl
  | mem ea => exact memRead_setPageCrossed ea b s

/-- The operand is read at its place, and locating it detects a page cross. -/
theorem readOperand_eq (o : Operand) (s : State) :
    readOperand o s = ((readLoc (place o s) s).1, (readLoc (place o s) s).2.setPageCrossed (crossed o s)) := by
  rw [readOperand, operandsAreLocated o s]
  exact readLoc_setPageCrossed (place o s) (crossed o s) s

theorem registers_readLoc (l : Loc) (s : State) : registers (readLoc l s).2 = registers s := by
  cases l with
  | regA | imm v => rfl
  | mem ea => exact registers_memRead ea s

theorem registers_readOperand (o : Operand) (s : State) : registers (readOperand o s).2 = registers s := by
  rw [readOperand_eq]
  exact registers_readLoc (place o s) s

theorem branchTaken_readLoc (l : Loc) (s : State) : (readLoc l s).2.branchTaken = s.branchTaken := by
  cases l with
  | regA | imm v => rfl
  | mem ea => exact memRead_branchTaken ea s

theorem keepsMemory_readLoc (l : Loc) (s : State) : KeepsMemory s (readLoc l s).2 := by
  cases l with
  | regA | imm v => exact fun _ => rfl
  | mem ea => exact fun b => memRead_peek ea b s

/-- An instruction that reads its operand and then changes the registers alone, by `f`. -/
theorem reads_of_exec {i : Instr} {o : Operand} {s : State} (f : Registers → Byte → Registers)
    (h : exec i s = .next (withRegisters (f (registers (readOperand o s).2) (readOperand o s).1) (readOperand o s).2)) :
    Reads i o s (f (registers s)) := by
  rw [registers_readOperand, readOperand_eq] at h
  exact ⟨_, h, rfl, rfl, (kept_closed (kept s)).readLoc (place o s) rfl, rfl, branchTaken_readLoc (place o s) s,
    keepsMemory_readLoc (place o s) s⟩

/-! The three loads: the register, then Z and N (41 R150 to R152). -/

section
variable {i : Instr} {o : Operand} {s : State}

theorem reads_of_lda (h : exec i s = .next (lda o s)) : Reads i o s (loadA s) :=
  reads_of_exec (fun r m => { r with a := m, p := zn m r.p }) (h.trans (congrArg _ (state_updateZN_eq_zn _ _)))

theorem reads_of_ldx (h : exec i s = .next (ldx o s)) : Reads i o s (loadX s) :=
  reads_of_exec (fun r m => { r with x := m, p := zn m r.p }) (h.trans (congrArg _ (state_updateZN_eq_zn _ _)))

theorem reads_of_ldy (h : exec i s = .next (ldy o s)) : Reads i o s (loadY s) :=
  reads_of_exec (fun r m => { r with y := m, p := zn m r.p }) (h.trans (congrArg _ (state_updateZN_eq_zn _ _)))

end

/-! The write of a byte: what it leaves at its address and elsewhere. -/

theorem memWrite_holdsByte {s : State} (ea : Word) (v : Byte) (hs : s.Inv) : HoldsByte ea v s (memWrite ea v s) :=
  memWrite_peek_self v hs.ram hs.cart.prgRam

theorem memWrite_keepsOtherMemory {s : State} (ea : Word) (v : Byte) (hs : s.Inv) :
    KeepsOtherMemory ea s (memWrite ea v s) := by
  refine ⟨memWrite_cart_prg ea v s, fun b hb hbank => ?_⟩
  obtain ⟨hne, hmirror⟩ := not_or.mp hb
  exact memWrite_peek_ne v hs.ram hs.cart.prgRam hne (fun hea hb e => hmirror ⟨hea, hb, e⟩) hbank

/-- A store to memory is one write at the operand's place. -/
theorem storeOperand_eq {o : Operand} {s : State} {ea : Word} (ho : place o s = .mem ea) (v : Byte) :
    storeOperand o v s = (memWrite ea v s).setPageCrossed (crossed o s) := by
  rw [storeOperand, operandsAreLocated o s, ho]
  exact memWrite_setPageCrossed ea v (crossed o s) s

/-- An instruction that stores a byte in memory. -/
theorem stores_of_exec {i : Instr} {o : Operand} {s : State} {v : Byte} {ea : Word} (hs : s.Inv)
    (ho : place o s = .mem ea) (h : exec i s = .next (storeOperand o v s)) : Stores i o s v := by
  rw [storeOperand_eq ho] at h
  exact ⟨ea, _, ho, h, registers_memWrite ea v s, rfl, (kept_closed (kept s)).memWrite ea v rfl, rfl,
    memWrite_branchTaken ea v s, memWrite_holdsByte ea v hs, memWrite_keepsOtherMemory ea v hs⟩

end Sys2Proof.Claims

open Sys2Proof Sys2Proof.Machine Sys2Proof.Claims

/-- Settles O13: every form reads its operand, then changes one register and the flags; the rows are the table's. -/
theorem loadsReadTheirOperand : Obligations.LoadsReadTheirOperand := by
  intro s v z a
  refine ⟨?_, reads_of_lda rfl, ?_, reads_of_lda rfl, ?_, reads_of_lda rfl, ?_, reads_of_lda rfl,
    ?_, reads_of_lda rfl, ?_, reads_of_lda rfl, ?_, reads_of_lda rfl, ?_, reads_of_lda rfl,
    ?_, reads_of_ldx rfl, ?_, reads_of_ldx rfl, ?_, reads_of_ldx rfl, ?_, reads_of_ldx rfl, ?_, reads_of_ldx rfl,
    ?_, reads_of_ldy rfl, ?_, reads_of_ldy rfl, ?_, reads_of_ldy rfl, ?_, reads_of_ldy rfl, ?_, reads_of_ldy rfl⟩
  all_goals exact row_of_table rfl rfl rfl

/-- Settles O14: every form is located in memory and stores its register there; the rows are the table's. -/
theorem storesWriteTheirRegister : Obligations.StoresWriteTheirRegister := by
  intro s z a hs
  refine ⟨?_, stores_of_exec hs rfl rfl, ?_, stores_of_exec hs rfl rfl, ?_, stores_of_exec hs rfl rfl,
    ?_, stores_of_exec hs rfl rfl, ?_, stores_of_exec hs rfl rfl, ?_, stores_of_exec hs rfl rfl,
    ?_, stores_of_exec hs rfl rfl, ?_, stores_of_exec hs rfl rfl, ?_, stores_of_exec hs rfl rfl,
    ?_, stores_of_exec hs rfl rfl, ?_, stores_of_exec hs rfl rfl, ?_, stores_of_exec hs rfl rfl,
    ?_, stores_of_exec hs rfl rfl⟩
  all_goals exact row_of_table rfl rfl rfl

/-- Settles O15: each copy is followed by `updateZN` of the byte copied, but for TXS. -/
theorem transfersCopyARegister : Obligations.TransfersCopyARegister := by
  intro s
  refine ⟨?_, congrArg _ (state_updateZN_eq_zn s.a _), ?_, congrArg _ (state_updateZN_eq_zn s.a _),
    ?_, congrArg _ (state_updateZN_eq_zn s.x _), ?_, congrArg _ (state_updateZN_eq_zn s.y _),
    ?_, congrArg _ (state_updateZN_eq_zn s.sp _), ?_, rfl⟩
  all_goals exact row_of_table rfl rfl rfl

end

section
/-! Arithmetic, logic, comparison and counting by 1: what each does to the registers, in the statements' numbers
(42 R170 to R184). -/

namespace Sys2Proof.Claims

open Sys2Proof.Machine

/-! The sum of ADC and its signed overflow (40 R143). -/

theorem and_0x80_ne_zero (v : Byte) : ((v &&& 0x80) != 0) = v.msb := by
  have hmask : (0x80 : Byte) = BitVec.twoPow 8 7 := rfl
  rw [hmask, BitVec.and_twoPow, show v.getLsbD 7 = v.msb from rfl]
  cases v.msb <;> rfl

/-- The model's test for overflow: the terms have one sign, and the result has the other. -/
theorem overflowBit_iff (a m r : Byte) : ((~~~(a ^^^ m)) &&& (a ^^^ r) &&& 0x80) != 0 ↔
    (128 ≤ a.toNat ↔ 128 ≤ m.toNat) ∧ ¬ (128 ≤ a.toNat ↔ 128 ≤ r.toNat) := by
  rw [and_0x80_ne_zero, BitVec.msb_and, BitVec.msb_not, BitVec.msb_xor, BitVec.msb_xor, BitVec.msb_eq_decide,
    BitVec.msb_eq_decide, BitVec.msb_eq_decide]
  simp

/-- The signs differ so just when the signed sum leaves the range of a byte. -/
theorem overflowBit_addResult (a m : Byte) (c : Bool) :
    (((~~~(a ^^^ m)) &&& (a ^^^ addResult a m c) &&& 0x80) != 0) =
      decide (a.toInt + m.toInt + c.toNat < -128 ∨ 127 < a.toInt + m.toInt + c.toNat) := by
  have hr : (addResult a m c).toNat = (a.toNat + m.toNat + c.toNat) % 256 := BitVec.toNat_ofNat _ _
  have ha := a.isLt
  have hm := m.isLt
  have hc := c.toNat_le
  rw [Bool.eq_iff_iff, decide_eq_true_iff, overflowBit_iff, hr, BitVec.toInt_eq_toNat_cond,
    BitVec.toInt_eq_toNat_cond]
  omega

theorem toInt_complement (v : Byte) : (~~~v).toInt = -v.toInt - 1 := by
  have hv := v.isLt
  rw [BitVec.toInt_eq_toNat_cond, BitVec.toInt_eq_toNat_cond, BitVec.toNat_not]
  omega

/-- The registers after an addition with carry, by the model's own operations (40 R143). -/
def sumRegisters (r : Registers) (m : Byte) : Registers :=
  { r with a := addResult r.a m r.p.c, p := r.p.addWithCarry r.a m }

/-- The model's sum and flags are those that the statements write. -/
theorem sumRegisters_eq_added (s : State) (m : Byte) : sumRegisters (registers s) m = added s m := by
  simp only [sumRegisters, Flags.addWithCarry, updateZN_eq_zn, overflowBit_addResult]
  rfl

/-- Adding the complement with the carry subtracts with the borrow: the unsigned sum is 256 above the difference, and
the signed sum is the signed difference (42 R171). -/
theorem added_complement_eq_subtracted (s : State) (m : Byte) : added s (m ^^^ 0xFF) = subtracted s m := by
  have hm := m.isLt
  have hc := s.p.c.toNat_le
  have hnot : m ^^^ 0xFF = ~~~m := BitVec.xor_allOnes
  have hsum : (adcSum s (~~~m) : Int) = sbcDiff s m + 256 := by
    rw [adcSum, sbcDiff, BitVec.toNat_not]
    omega
  have hsigned : adcSigned s (~~~m) = sbcSigned s m := by
    rw [adcSigned, sbcSigned, toInt_complement]
    omega
  have hbyte : byte (adcSum s (~~~m)) = BitVec.ofInt 8 (sbcDiff s m) := by
    rw [byte, ← BitVec.ofInt_natCast, hsum, BitVec.ofInt_add]
    exact BitVec.add_zero _
  have hcarry : 256 ≤ adcSum s (~~~m) ↔ 0 ≤ sbcDiff s m := by omega
  simp only [hnot, added, subtracted, hbyte, hsigned, hcarry]

/-! The flags of a comparison (40 R142), and a count by 1 (42 R179 to R184). -/

theorem compare_eq_comparison (reg m : Byte) (p : Flags) : p.compare reg m = comparison reg m p := by
  have hz : (reg == m) = decide (reg.toNat = m.toNat) := by
    rw [Bool.eq_iff_iff, beq_iff_eq, decide_eq_true_eq, BitVec.toNat_inj]
  have hn : (reg - m).getLsbD 7 = decide (128 ≤ (reg.toNat + 256 - m.toNat) % 256) := by
    have hm := m.isLt
    rw [show (reg - m).getLsbD 7 = (reg - m).msb from rfl, BitVec.msb_eq_decide, BitVec.toNat_sub,
      Nat.add_comm, ← Nat.add_sub_assoc (by omega)]
  rw [Flags.compare, comparison, hz, hn]

/-- Adding 1 wraps at 8 bits. -/
theorem add_one_eq_byte (v : Byte) : v + 1 = byte (v.toNat + 1) :=
  BitVec.eq_of_toNat_eq (BitVec.toNat_add v 1)

/-- Subtracting 1 is adding 255, with wrap at 8 bits. -/
theorem sub_one_eq_byte (v : Byte) : v - 1 = byte (v.toNat + 255) := by
  rw [BitVec.sub_eq_add_neg]
  exact BitVec.eq_of_toNat_eq (BitVec.toNat_add v (-1))

/-! The instructions that read their operand. -/

section
variable {i : Instr} {o : Operand} {s : State}

theorem reads_of_adc (h : exec i s = .next (adc o s)) : Reads i o s (added s) := by
  rw [← funext (sumRegisters_eq_added s)]
  exact reads_of_exec sumRegisters h

theorem reads_of_sbc (h : exec i s = .next (sbc o s)) : Reads i o s (subtracted s) := by
  rw [← funext (added_complement_eq_subtracted s)]
  simp only [← sumRegisters_eq_added]
  exact reads_of_exec (fun r m => sumRegisters r (m ^^^ 0xFF)) h

theorem reads_of_logicOp {f : Byte → Byte → Byte} (h : exec i s = .next (logicOp f o s)) :
    Reads i o s (fun m => loadA s (f s.a m)) :=
  reads_of_exec (fun r m => { r with a := f r.a m, p := zn (f r.a m) r.p })
    (h.trans (congrArg _ (state_updateZN_eq_zn _ _)))

/-- CMP, CPX and CPY compare one register, `reg`. -/
theorem reads_of_compare (reg : Registers → Byte)
    (h : exec i s = .next ((readOperand o s).2.setP
      ((readOperand o s).2.p.compare (reg (registers (readOperand o s).2)) (readOperand o s).1))) :
    Reads i o s (fun m => withP s (comparison (reg (registers s)) m s.p)) := by
  rw [compare_eq_comparison] at h
  exact reads_of_exec (fun r m => { r with p := comparison (reg r) m r.p }) h

theorem reads_of_bitA (h : exec i s = .next (bitA o s)) : Reads i o s (bitTested s) :=
  reads_of_exec (fun r m => { r with p := r.p.bitTest r.a m }) h

end

/-! The instructions that modify a byte of memory: a read, then a write from the state that the read leaves. -/

theorem holdsByte_memRead {ea a : Word} {v : Byte} {s t : State} :
    HoldsByte ea v (memRead a s).2 t ↔ HoldsByte ea v s t := by
  rw [HoldsByte, HoldsByte, memRead_cart]

theorem keepsOtherMemory_memRead {ea a : Word} {s t : State} :
    KeepsOtherMemory ea (memRead a s).2 t ↔ KeepsOtherMemory ea s t := by
  simp only [KeepsOtherMemory, memRead_cart, memRead_peek]

/-- An instruction that writes `result` of the byte at its effective address back there and sets P by `flags`. -/
theorem modifies_of_exec {i : Instr} {o : Operand} {s : State} {ea : Word} {result : Byte → Byte}
    {flags : Byte → Flags} (hs : s.Inv) (ho : place o s = .mem ea)
    (h : exec i s = .next
      (((memWrite ea (result (memRead ea s).1) (memRead ea s).2).setPageCrossed (crossed o s)).setP
        (flags (memRead ea s).1))) : Modifies i o s result flags := by
  have hread : (memRead ea s).2.Inv := hs.memRead ea
  have hregisters : registers (memWrite ea (result (memRead ea s).1) (memRead ea s).2) = registers s :=
    (registers_memWrite ea _ _).trans (registers_memRead ea s)
  exact ⟨ea, _, ho, h, congrArg (fun r => { r with p := flags (memRead ea s).1 }) hregisters, rfl,
    (kept_closed (kept s)).memWrite ea _ ((kept_closed (kept s)).memRead ea rfl), rfl,
    (memWrite_branchTaken ea _ _).trans (memRead_branchTaken ea s),
    holdsByte_memRead.mp (memWrite_holdsByte ea _ hread),
    keepsOtherMemory_memRead.mp (memWrite_keepsOtherMemory ea _ hread)⟩

theorem modifyOperand_eq {o : Operand} {s : State} {ea : Word} (f : Byte → Byte) (ho : place o s = .mem ea) :
    modifyOperand f o s =
      ((memWrite ea (f (memRead ea s).1) (memRead ea s).2).setPageCrossed (crossed o s)).setP
        (zn (f (memRead ea s).1) s.p) := by
  have hlocate : locate o s = (.mem ea, s.setPageCrossed (crossed o s)) := ho ▸ operandsAreLocated o s
  simp only [modifyOperand, hlocate, readLoc, writeLoc, memRead_setPageCrossed, memWrite_setPageCrossed,
    State.updateZN, updateZN_eq_zn, setPageCrossed_p, memWrite_p, memRead_p]

theorem modifies_of_modifyOperand {i : Instr} {o : Operand} {s : State} {f : Byte → Byte} {ea : Word} (hs : s.Inv)
    (ho : place o s = .mem ea) (h : exec i s = .next (modifyOperand f o s)) :
    Modifies i o s f (fun m => zn (f m) s.p) :=
  modifies_of_exec hs ho (h.trans (congrArg _ (modifyOperand_eq f ho)))

end Sys2Proof.Claims

open Sys2Proof Sys2Proof.Machine Sys2Proof.Claims

/-- Settles O16: every form adds its operand; the model's sum, carry and overflow are those of the exact sums. -/
theorem adcAddsInBinary : Obligations.AdcAddsInBinary := by
  intro s v z a
  refine ⟨?_, reads_of_adc rfl, ?_, reads_of_adc rfl, ?_, reads_of_adc rfl, ?_, reads_of_adc rfl,
    ?_, reads_of_adc rfl, ?_, reads_of_adc rfl, ?_, reads_of_adc rfl, ?_, reads_of_adc rfl⟩
  all_goals exact row_of_table rfl rfl rfl

/-- Settles O17: every form adds its operand's complement, which subtracts the operand. -/
theorem sbcSubtractsInBinary : Obligations.SbcSubtractsInBinary := by
  intro s v z a
  refine ⟨?_, reads_of_sbc rfl, ?_, reads_of_sbc rfl, ?_, reads_of_sbc rfl, ?_, reads_of_sbc rfl,
    ?_, reads_of_sbc rfl, ?_, reads_of_sbc rfl, ?_, reads_of_sbc rfl, ?_, reads_of_sbc rfl⟩
  all_goals exact row_of_table rfl rfl rfl

/-- Settles O18: every form is one logic operation on A and its operand. -/
theorem logicCombinesAWithItsOperand : Obligations.LogicCombinesAWithItsOperand := by
  intro s v z a
  refine ⟨?_, reads_of_logicOp rfl, ?_, reads_of_logicOp rfl, ?_, reads_of_logicOp rfl, ?_, reads_of_logicOp rfl,
    ?_, reads_of_logicOp rfl, ?_, reads_of_logicOp rfl, ?_, reads_of_logicOp rfl, ?_, reads_of_logicOp rfl,
    ?_, reads_of_logicOp rfl, ?_, reads_of_logicOp rfl, ?_, reads_of_logicOp rfl, ?_, reads_of_logicOp rfl,
    ?_, reads_of_logicOp rfl, ?_, reads_of_logicOp rfl, ?_, reads_of_logicOp rfl, ?_, reads_of_logicOp rfl,
    ?_, reads_of_logicOp rfl, ?_, reads_of_logicOp rfl, ?_, reads_of_logicOp rfl, ?_, reads_of_logicOp rfl,
    ?_, reads_of_logicOp rfl, ?_, reads_of_logicOp rfl, ?_, reads_of_logicOp rfl, ?_, reads_of_logicOp rfl⟩
  all_goals exact row_of_table rfl rfl rfl

/-- Settles O19: the comparisons differ in the register alone; BIT reads its flags off A and the operand. -/
theorem compareAndBitSetFlags : Obligations.CompareAndBitSetFlags := by
  intro s v z a
  refine ⟨?_, reads_of_compare (·.a) rfl, ?_, reads_of_compare (·.a) rfl, ?_, reads_of_compare (·.a) rfl,
    ?_, reads_of_compare (·.a) rfl, ?_, reads_of_compare (·.a) rfl, ?_, reads_of_compare (·.a) rfl,
    ?_, reads_of_compare (·.a) rfl, ?_, reads_of_compare (·.a) rfl,
    ?_, reads_of_compare (·.x) rfl, ?_, reads_of_compare (·.x) rfl, ?_, reads_of_compare (·.x) rfl,
    ?_, reads_of_compare (·.y) rfl, ?_, reads_of_compare (·.y) rfl, ?_, reads_of_compare (·.y) rfl,
    ?_, reads_of_bitA rfl, ?_, reads_of_bitA rfl⟩
  all_goals exact row_of_table rfl rfl rfl

/-- Settles O20: every form is located in memory, and reads and writes one byte there. -/
theorem incDecModifyMemory : Obligations.IncDecModifyMemory := by
  intro s z a hs
  simp only [← add_one_eq_byte, ← sub_one_eq_byte]
  refine ⟨?_, modifies_of_modifyOperand hs rfl rfl, ?_, modifies_of_modifyOperand hs rfl rfl,
    ?_, modifies_of_modifyOperand hs rfl rfl, ?_, modifies_of_modifyOperand hs rfl rfl,
    ?_, modifies_of_modifyOperand hs rfl rfl, ?_, modifies_of_modifyOperand hs rfl rfl,
    ?_, modifies_of_modifyOperand hs rfl rfl, ?_, modifies_of_modifyOperand hs rfl rfl⟩
  all_goals exact row_of_table rfl rfl rfl

/-- Settles O21: each count is followed by `updateZN` of the register counted. -/
theorem indexRegistersCount : Obligations.IndexRegistersCount := by
  intro s
  simp only [← add_one_eq_byte, ← sub_one_eq_byte]
  refine ⟨?_, congrArg _ (state_updateZN_eq_zn (s.x + 1) _), ?_, congrArg _ (state_updateZN_eq_zn (s.y + 1) _),
    ?_, congrArg _ (state_updateZN_eq_zn (s.x - 1) _), ?_, congrArg _ (state_updateZN_eq_zn (s.y - 1) _)⟩
  all_goals exact row_of_table rfl rfl rfl

end

section
/-! Shifts and rotates: the bytes, bits and flags of the model's bit operations, in the statements' numbers
(43 R190 to R193). -/

namespace Sys2Proof.Claims

open Sys2Proof.Machine

/-! The shifted byte and the bit shifted off, as numbers. -/

theorem byte_toNat (v : Byte) : byte v.toNat = v := by
  rw [byte, BitVec.ofNat_toNat, BitVec.setWidth_eq]

theorem getLsbD_seven_eq (m : Byte) : m.getLsbD 7 = decide (128 ≤ m.toNat) := by
  rw [show m.getLsbD 7 = m.msb from rfl, BitVec.msb_eq_decide]

theorem getLsbD_zero_eq (m : Byte) : m.getLsbD 0 = decide (m.toNat % 2 = 1) :=
  Nat.testBit_zero m.toNat

theorem toNat_shiftLeft_one (m : Byte) : (m <<< 1).toNat = 2 * m.toNat % 256 := by
  rw [BitVec.toNat_shiftLeft, Nat.shiftLeft_eq_mul_pow, Nat.mul_comm]

theorem toNat_ushiftRight_one (m : Byte) : (m >>> 1).toNat = m.toNat / 2 := by
  rw [BitVec.toNat_ushiftRight, Nat.shiftRight_eq_div_pow]

theorem bitAt_zero_toNat (c : Bool) : (bitAt c 0).toNat = c.toNat := by
  cases c <;> rfl

theorem bitAt_seven_toNat (c : Bool) : (bitAt c 7).toNat = 128 * c.toNat := by
  cases c <;> rfl

theorem shiftLeft_eq (m : Byte) (c : Bool) : shiftLeft m c = ⟨aslByte m, decide (128 ≤ m.toNat)⟩ := by
  have hresult : m <<< 1 = aslByte m :=
    BitVec.eq_of_toNat_eq ((toNat_shiftLeft_one m).trans (BitVec.toNat_ofNat (2 * m.toNat) 8).symm)
  rw [shiftLeft, hresult, getLsbD_seven_eq]

theorem shiftRight_eq (m : Byte) (c : Bool) : shiftRight m c = ⟨lsrByte m, decide (m.toNat % 2 = 1)⟩ := by
  have hresult : m >>> 1 = lsrByte m := by
    rw [lsrByte, ← toNat_ushiftRight_one, byte_toNat]
  rw [shiftRight, hresult, getLsbD_zero_eq]

/-- The doubled byte is even, so its "or" with the carry as bit 0 is their sum. -/
theorem rotateLeft_eq (m : Byte) (c : Bool) : rotateLeft m c = ⟨rolByte c m, decide (128 ≤ m.toNat)⟩ := by
  have hsum : 2 * m.toNat % 256 + c.toNat = 2 * m.toNat % 256 ||| c.toNat := by
    rw [show 2 * m.toNat % 256 = 2 ^ 1 * (m.toNat % 128) by omega]
    exact Nat.two_pow_add_eq_or_of_lt c.toNat_lt _
  have hresult : (m <<< 1) ||| bitAt c 0 = rolByte c m := by
    rw [rolByte, hsum, ← toNat_shiftLeft_one, ← bitAt_zero_toNat, ← BitVec.toNat_or, byte_toNat]
  rw [rotateLeft, hresult, getLsbD_seven_eq]

/-- The halved byte is below 128, so its "or" with the carry as bit 7 is their sum. -/
theorem rotateRight_eq (m : Byte) (c : Bool) : rotateRight m c = ⟨rorByte c m, decide (m.toNat % 2 = 1)⟩ := by
  have hm := m.isLt
  have hsum : 128 * c.toNat + m.toNat / 2 = 128 * c.toNat ||| m.toNat / 2 :=
    Nat.two_pow_add_eq_or_of_lt (i := 7) (by omega) c.toNat
  have hresult : (m >>> 1) ||| bitAt c 7 = rorByte c m := by
    rw [rorByte, Nat.add_comm, hsum, Nat.lor_comm, ← toNat_ushiftRight_one, ← bitAt_seven_toNat,
      ← BitVec.toNat_or, byte_toNat]
  rw [rotateRight, hresult, getLsbD_zero_eq]

/-! The shared operation, of A and of one byte of memory. -/

section
variable {i : Instr} {o : Operand} {s : State} {f : Byte → Bool → Shifted} {result : Byte → Byte} {carry : Byte → Bool}

theorem modifiesA_of_shiftOp (hf : ∀ m, f m s.p.c = ⟨result m, carry m⟩)
    (h : exec i s = .next (shiftOp f .accumulator s)) :
    ModifiesA i s result (fun m => zn (result m) { s.p with c := carry m }) := by
  have hshift : shiftOp f .accumulator s =
      ((s.setP { s.p with c := (f s.a s.p.c).carry }).setA (f s.a s.p.c).result).updateZN (f s.a s.p.c).result := rfl
  rw [hf, state_updateZN_eq_zn] at hshift
  exact h.trans (congrArg _ hshift)

/-- The carry is set between the read and the write, which P does not bear on. -/
theorem shiftOp_eq {ea : Word} (hf : ∀ m, f m s.p.c = ⟨result m, carry m⟩) (ho : place o s = .mem ea) :
    shiftOp f o s =
      ((memWrite ea (result (memRead ea s).1) (memRead ea s).2).setPageCrossed (crossed o s)).setP
        (zn (result (memRead ea s).1) { s.p with c := carry (memRead ea s).1 }) := by
  have hlocate : locate o s = (.mem ea, s.setPageCrossed (crossed o s)) := ho ▸ operandsAreLocated o s
  simp only [shiftOp, hlocate, readLoc, writeLoc, memRead_setPageCrossed, setPageCrossed_p, memRead_p, hf,
    memWrite_setP, memWrite_setPageCrossed, State.updateZN, updateZN_eq_zn, setP_p]
  rfl

theorem modifies_of_shiftOp {ea : Word} (hf : ∀ m, f m s.p.c = ⟨result m, carry m⟩) (hs : s.Inv)
    (ho : place o s = .mem ea) (h : exec i s = .next (shiftOp f o s)) :
    Modifies i o s result (fun m => zn (result m) { s.p with c := carry m }) :=
  modifies_of_exec hs ho (h.trans (congrArg _ (shiftOp_eq hf ho)))

end

end Sys2Proof.Claims

open Sys2Proof Sys2Proof.Machine Sys2Proof.Claims

/-- Settles O22: every form is the shared operation of A or of one byte of memory, and the four functions of bits that
it is given are those of the statements' numbers. -/
theorem shiftsAndRotates : Obligations.ShiftsAndRotates := by
  intro s z a hs
  have hasl := fun m => shiftLeft_eq m s.p.c
  have hlsr := fun m => shiftRight_eq m s.p.c
  have hrol := fun m => rotateLeft_eq m s.p.c
  have hror := fun m => rotateRight_eq m s.p.c
  refine ⟨?_, modifiesA_of_shiftOp hasl rfl, ?_, modifiesA_of_shiftOp hlsr rfl,
    ?_, modifiesA_of_shiftOp hrol rfl, ?_, modifiesA_of_shiftOp hror rfl,
    ?_, modifies_of_shiftOp hasl hs rfl rfl, ?_, modifies_of_shiftOp hasl hs rfl rfl,
    ?_, modifies_of_shiftOp hasl hs rfl rfl, ?_, modifies_of_shiftOp hasl hs rfl rfl,
    ?_, modifies_of_shiftOp hlsr hs rfl rfl, ?_, modifies_of_shiftOp hlsr hs rfl rfl,
    ?_, modifies_of_shiftOp hlsr hs rfl rfl, ?_, modifies_of_shiftOp hlsr hs rfl rfl,
    ?_, modifies_of_shiftOp hrol hs rfl rfl, ?_, modifies_of_shiftOp hrol hs rfl rfl,
    ?_, modifies_of_shiftOp hrol hs rfl rfl, ?_, modifies_of_shiftOp hrol hs rfl rfl,
    ?_, modifies_of_shiftOp hror hs rfl rfl, ?_, modifies_of_shiftOp hror hs rfl rfl,
    ?_, modifies_of_shiftOp hror hs rfl rfl, ?_, modifies_of_shiftOp hror hs rfl rfl⟩
  all_goals exact row_of_table rfl rfl rfl

end

section
/-! Branches, jumps, calls and returns (44 R195 to R206). -/

namespace Sys2Proof.Claims

open Sys2Proof.Machine

/-! The stack as JSR leaves it and RTS reads it (40 R124). -/

theorem hiByte_eq_byte (w : Word) : hiByte w = byte (w.toNat / 256) := by
  rw [← hiByte_toNat, byte_toNat]

theorem loByte_eq_byte (w : Word) : loByte w = byte w.toNat := by
  rw [loByte, byte, ← BitVec.ofNat_toNat]

theorem jsr_eq (a : Word) (s : State) :
    jsr a s = { s with
      ram := (s.ram.write (slot s.sp) (byte ((s.pc - 1).toNat / 256))).write (slot (s.sp - 1)) (byte (s.pc - 1).toNat)
      sp := s.sp - 2
      pc := a } := by
  rw [jsr, pushWord_eq, hiByte_eq_byte, loByte_eq_byte]
  rfl

theorem rts_eq (s : State) :
    rts s = { s with
      sp := s.sp + 2
      pc := fromBytes (s.ram.read (slot (s.sp + 1))) (s.ram.read (slot (s.sp + 2))) + 1 } := by
  rw [rts, pullWord_eq, word_eq_fromBytes]
  rfl

/-- A program reads the stack in RAM. -/
theorem peek_slot (sp : Byte) (s : State) : s.peek (address (slot sp)) = some (s.ram.read (slot sp)) := by
  have hsp := sp.isLt
  have haddr : (address (slot sp)).toNat = slot sp := by rw [address_slot, stackAddr_toNat, slot]
  rw [peek_of_ram s (by rw [haddr, slot]; omega), haddr, Nat.mod_eq_of_lt (by rw [slot]; omega)]

/-- The high byte of a pushed word is at S, where the push of its low byte leaves it. -/
theorem pushWord_read_high {s : State} (w : Word) (hr : s.ram.wf 0x800 = true) :
    (pushWord w s).ram.read (slot s.sp) = hiByte w := by
  have hne : s.sp ≠ (push (hiByte w) s).sp := by rw [push_sp]; bv_omega
  rw [pushWord, push_read_ne _ (push_ram_wf _ hr) hne, push_read _ hr]

/-- The low byte of a pushed word is below S. -/
theorem pushWord_read_low {s : State} (w : Word) (hr : s.ram.wf 0x800 = true) :
    (pushWord w s).ram.read (slot (s.sp - 1)) = loByte w := by
  rw [← push_sp (hiByte w) s]
  exact push_read _ (push_ram_wf _ hr)

/-! The target of a branch, and whether it lies in another page (40 R138; 44 R195). -/

theorem branchTarget_eq (pc : Word) (off : Int) : branchTarget pc off = BitVec.ofInt 16 (pc.toNat + off) := by
  rw [branchTarget, BitVec.ofInt_add, BitVec.ofInt_natCast, BitVec.ofNat_toNat, BitVec.setWidth_eq]

theorem page_bne_page (a b : Word) : (page a != page b) = decide (pageOf a ≠ pageOf b) := by
  rw [Bool.eq_iff_iff, bne_iff_ne, decide_eq_true_eq, Ne, page_eq_page_iff]

/-- An instruction whose meaning is the shared operation on its condition. -/
theorem branches_of_exec {i : Instr} {off : Int} {cond : Bool} {s : State} (h : exec i s = .next (branch cond off s)) :
    Branches i off cond s := by
  rw [branch, branchTarget_eq, page_bne_page] at h
  exact h

/-! The pointer of an indirect JMP (40 R136). -/

/-- The high byte's address is the next one, wrapped in the pointer's page. -/
theorem pointerHigh_toNat (ptr : Word) : (pointerHigh ptr).toNat = 256 * pageOf ptr + (ptr.toNat + 1) % 256 := by
  have hlow : ((ptr + 1) &&& 0x00FF).toNat = (ptr.toNat + 1) % 256 := by
    rw [BitVec.toNat_and, BitVec.toNat_add]
    exact (Nat.and_two_pow_sub_one_eq_mod _ 8).trans (Nat.mod_mod_of_dvd _ (by decide))
  rw [pointerHigh, BitVec.toNat_or, page_toNat, hlow]
  exact (Nat.two_pow_add_eq_or_of_lt (i := 8) (Nat.mod_lt _ (by decide)) _).symm

theorem pointerHigh_eq (ptr : Word) :
    pointerHigh ptr = address (if ptr.toNat % 256 = 255 then ptr.toNat - 255 else ptr.toNat + 1) := by
  have hptr := ptr.isLt
  apply BitVec.eq_of_toNat_eq
  rw [pointerHigh_toNat, address, BitVec.toNat_ofNat, pageOf]
  split <;> omega

end Sys2Proof.Claims

open Sys2Proof Sys2Proof.Machine Sys2Proof.Claims

/-- Settles O26: both in closed form; each push leaves its byte in RAM, where a program reads it. -/
theorem jsrAndRtsUseTheStack : Obligations.JsrAndRtsUseTheStack := by
  intro s a
  refine ⟨row_of_table rfl rfl rfl, ⟨jsr a s, jsr_eq a s, rfl, fun hs => ⟨?_, ?_, ?_⟩⟩,
    row_of_table rfl rfl rfl, congrArg Host.Outcome.next (rts_eq s)⟩
  · rw [jsr, peek_setPc, peek_slot, pushWord_read_high _ hs.ram, hiByte_eq_byte]
  · rw [jsr, peek_setPc, peek_slot, pushWord_read_low _ hs.ram, loByte_eq_byte]
  · exact pushWord_keepsAllButStack (s.pc - 1) hs

/-- Settles O24: every branch is the shared operation on one flag, as it is or negated. -/
theorem branchesFollowTheirFlag : Obligations.BranchesFollowTheirFlag := by
  intro s off _ _
  simp only [Bool.decide_eq_true, Bool.decide_eq_false]
  refine ⟨?_, branches_of_exec rfl, ?_, branches_of_exec rfl, ?_, branches_of_exec rfl, ?_, branches_of_exec rfl,
    ?_, branches_of_exec rfl, ?_, branches_of_exec rfl, ?_, branches_of_exec rfl, ?_, branches_of_exec rfl⟩
  all_goals exact row_of_table rfl rfl rfl

/-- Settles O25: the pointer's two bytes are read in order, and neither read changes a register or memory. -/
theorem jmpLoadsPc : Obligations.JmpLoadsPc := by
  intro s a
  refine ⟨row_of_table rfl rfl rfl, rfl, row_of_table rfl rfl rfl, ?_⟩
  rw [← pointerHigh_eq]
  have hregisters : registers (memRead (pointerHigh a) (memRead a s).2).2 = registers s :=
    (registers_memRead _ _).trans (registers_memRead a s)
  refine ⟨_, _, jmpIndirect a s, rfl, rfl, ?_, rfl, ?_, (kept_closed (kept s)).jmpIndirect a rfl, fun b => ?_⟩
  · rw [jmpIndirect, word_eq_fromBytes]
    rfl
  · exact congrArg (fun r => { r with pc := (jmpIndirect a s).pc }) hregisters
  · rw [jmpIndirect, peek_setPc, memRead_peek, memRead_peek]

end

section
/-! Stack, flag and system instructions: the entry to an exception handler, and the return from it
(45 R210 to R223; 60 R236, R237). -/

namespace Sys2Proof.Claims

open Sys2Proof.Machine

/-! The byte pushed for P, and the instructions that pull (10 R35, R36). -/

theorem toByte_eq_statusByte (p : Flags) (b : Bool) : p.toByte b = statusByte p b := by
  obtain ⟨n, v, d, i, z, c⟩ := p
  revert n v d i z c b
  decide

theorem php_eq (s : State) : php s = push (statusByte s.p true) s := by
  rw [php, toByte_eq_statusByte]

theorem pla_eq (s : State) :
    pla s = { s with
      sp := s.sp + 1
      a := s.ram.read (slot (s.sp + 1))
      p := zn (s.ram.read (slot (s.sp + 1))) s.p } := by
  rw [pla, pull_eq, state_updateZN_eq_zn]
  rfl

theorem plp_eq (s : State) :
    plp s = { s with
      sp := s.sp + 1
      p := pulledFlags (s.ram.read (slot (s.sp + 1))) } := by
  rw [plp, pull_eq]
  rfl

theorem rti_eq (s : State) :
    rti s = { s with
      sp := s.sp + 3
      p := pulledFlags (s.ram.read (slot (s.sp + 1)))
      pc := fromBytes (s.ram.read (slot (s.sp + 2))) (s.ram.read (slot (s.sp + 3))) } := by
  rw [rti, returnFromException_eq, word_eq_fromBytes]
  rfl

/-- An instruction whose meaning is a push. -/
theorem pushes_of_exec {i : Instr} {s : State} {v : Byte} (h : exec i s = .next (push v s)) : Pushes i s v := by
  refine ⟨push v s, push_eq v s, h, fun hs => ⟨?_, push_keepsAllButStack v hs⟩⟩
  rw [peek_slot, push_read v hs.ram]

/-! The three pushes of an exception entry. -/

@[simp] theorem pushWord_sp (w : Word) (s : State) : (pushWord w s).sp = s.sp - 2 := by rw [pushWord_eq]; rfl
@[simp] theorem pushWord_p (w : Word) (s : State) : (pushWord w s).p = s.p := by rw [pushWord_eq]; rfl
@[simp] theorem pushWord_cart (w : Word) (s : State) : (pushWord w s).cart = s.cart := by rw [pushWord_eq]; rfl

/-- A push of a word keeps RAM in canonical form. -/
theorem pushWord_ram_wf {s : State} (w : Word) (hr : s.ram.wf 0x800 = true) :
    (pushWord w s).ram.wf 0x800 = true :=
  push_ram_wf _ (push_ram_wf _ hr)

/-- One more push, below the `n` bytes that may already differ. -/
theorem KeepsAllButStack.push {s t : State} {n m : Nat} (v : Byte) (h : KeepsAllButStack n s t)
    (hr : t.ram.wf 0x800 = true) (hq : t.cart.prgRam.wf m = true) (hsp : t.sp = s.sp - byte n) :
    KeepsAllButStack (n + 1) s (push v t) := by
  intro b hb
  have hn := hb n n.lt_succ_self
  rw [← hsp] at hn
  exact (push_peek_ne v hr hq hn).trans (h b fun k hk => hb k (Nat.lt_succ_of_lt hk))

/-- The pushes of a word and of a byte leave the three bytes where a program reads them. -/
theorem push_pushWord_stacks3 {s : State} (ret : Word) (v : Byte) (hs : s.Inv) :
    Stacks3 ret v s (push v (pushWord ret s)) := by
  have hr := pushWord_ram_wf ret hs.ram
  have hq := hs.cart.prgRam
  rw [← pushWord_cart ret s] at hq
  refine ⟨?_, ?_, ?_, (pushWord_keepsAllButStack ret hs).push v hr hq (pushWord_sp ret s)⟩
  · have hne : s.sp ≠ (pushWord ret s).sp := by rw [pushWord_sp]; bv_omega
    rw [peek_slot, push_read_ne v hr hne, pushWord_read_high ret hs.ram, hiByte_eq_byte]
  · have hne : s.sp - 1 ≠ (pushWord ret s).sp := by rw [pushWord_sp]; bv_omega
    rw [peek_slot, push_read_ne v hr hne, pushWord_read_low ret hs.ram, loByte_eq_byte]
  · rw [peek_slot, ← pushWord_sp ret s, push_read v hr]

/-! What RTI pulls back from the three bytes of an entry. -/

theorem fromBytes_byte (w : Word) : fromBytes (byte w.toNat) (byte (w.toNat / 256)) = w := by
  rw [← hiByte_eq_byte, ← loByte_eq_byte, ← word_eq_fromBytes, word_hiByte_loByte]

theorem pulledFlags_statusByte (p : Flags) (b : Bool) : pulledFlags (statusByte p b) = p := by
  rw [← toByte_eq_statusByte]
  exact fromByte_toByte p b

/-- RTI brings back S, P and PC from the three stacked bytes, whatever the other registers are by then. -/
theorem rti_of_stacks3 {s t : State} {ret : Word} {p : Flags} {b : Bool} (h : Stacks3 ret (statusByte p b) s t)
    (hsp : t.sp = s.sp - 3) : rti t = { t with sp := s.sp, p := p, pc := ret } := by
  obtain ⟨hhigh, hlow, hstatus, -⟩ := h
  simp only [peek_slot, Option.some.injEq] at hhigh hlow hstatus
  have hsp1 : t.sp + 1 = s.sp - 2 := by bv_omega
  have hsp2 : t.sp + 2 = s.sp - 1 := by bv_omega
  have hsp3 : t.sp + 3 = s.sp := by bv_omega
  rw [rti_eq, hsp1, hsp2, hsp3, hhigh, hlow, hstatus, pulledFlags_statusByte, fromBytes_byte]

/-! The entry through a vector in the cartridge, and RTI at once after it. -/

section
variable {vector : Word} (hv : 0x8000 ≤ vector.toNat ∧ vector.toNat < 0xFFFF)
include hv

theorem takeException_eq_entered (ret : Word) (b : Bool) (s : State) :
    takeException ret b vector s = entered ret (statusByte s.p b) vector.toNat s := by
  rw [takeException_eq ret b s hv.1 hv.2, hiByte_eq_byte, loByte_eq_byte, toByte_eq_statusByte, word_eq_fromBytes]
  rfl

/-- The entry is its three pushes and two updates of registers: the vector's read has no effect. -/
theorem takeException_eq_push (ret : Word) (b : Bool) (s : State) :
    takeException ret b vector s = ((push (s.p.toByte b) (pushWord ret s)).setP { s.p with i := true }).setPc
      (takeException ret b vector s).pc := by
  have hp : (push (s.p.toByte b) (pushWord ret s)).p = s.p := by rw [push_eq]; exact pushWord_p ret s
  simp only [takeException, read16_vector _ hv.1 hv.2, pushWord_p, hp, setPc_pc]

theorem takeException_stacks3 {s : State} (ret : Word) (b : Bool) (hs : s.Inv) :
    Stacks3 ret (statusByte s.p b) s (takeException ret b vector s) := by
  rw [takeException_eq_push hv, ← toByte_eq_statusByte]
  exact push_pushWord_stacks3 ret (s.p.toByte b) hs

/-- RTI at once after an entry gives back every register, with the entry's return address as PC, and all memory but
the three stacked bytes. -/
theorem rti_undoes_takeException {s : State} (ret : Word) (b : Bool) (hs : s.Inv) :
    ∃ t, exec .rti (takeException ret b vector s) = .next t ∧ registers t = { registers s with pc := ret } ∧
      KeepsAllButStack 3 s t := by
  have hstack := takeException_stacks3 hv ret b hs
  have hentered := takeException_eq_entered hv ret b s
  have hsp : (takeException ret b vector s).sp = s.sp - 3 := by rw [hentered]; rfl
  have ⟨_, _, _, hkeeps⟩ := hstack
  refine ⟨_, congrArg Host.Outcome.next (rti_of_stacks3 hstack hsp), ?_, hkeeps⟩
  rw [hentered]
  rfl

end

/-- The NMI latch is not part of the invariant. -/
theorem inv_setNmiPending {s : State} (b : Bool) (hs : s.Inv) : (s.setNmiPending b).Inv :=
  ⟨hs.ram, hs.cart, hs.ppu, hs.pads⟩

end Sys2Proof.Claims

open Sys2Proof Sys2Proof.Machine Sys2Proof.Claims

/-- Settles O12: NMI, IRQ and BRK are one entry, with their own return address, and RTI undoes it. -/
theorem rtiUndoesEveryEntry : Obligations.RtiUndoesEveryEntry :=
  fun s hs => ⟨rti_undoes_takeException (by decide) s.pc false (inv_setNmiPending false hs),
    rti_undoes_takeException (by decide) s.pc false hs,
    brk s, (rti_undoes_takeException (by decide) (s.pc + 1) true hs).imp fun _ h => ⟨rfl, h⟩⟩

/-- Settles O10: BRK is the shared exception entry. -/
theorem brkEntersTheHandler : Obligations.BrkEntersTheHandler :=
  fun s => ⟨row_of_table rfl rfl rfl, brk s, takeException_eq_entered (by decide) (s.pc + 1) true s, rfl,
    fun hs => takeException_stacks3 (by decide) (s.pc + 1) true hs⟩

/-- Settles O11: RTI in closed form. -/
theorem rtiRestoresStatusAndPc : Obligations.RtiRestoresStatusAndPc :=
  fun s => ⟨row_of_table rfl rfl rfl, congrArg Host.Outcome.next (rti_eq s)⟩

/-- Settles O28: two pushes, and two pulls in closed form. -/
theorem stackInstructionsPushAndPull : Obligations.StackInstructionsPushAndPull :=
  fun s => ⟨row_of_table rfl rfl rfl, pushes_of_exec rfl,
    row_of_table rfl rfl rfl, pushes_of_exec (congrArg Host.Outcome.next (php_eq s)),
    row_of_table rfl rfl rfl, congrArg Host.Outcome.next (pla_eq s),
    row_of_table rfl rfl rfl, congrArg Host.Outcome.next (plp_eq s)⟩

/-- Settles O29: each meaning is the one update of P, or none, that its rule names. -/
theorem flagInstructionsAndNop : Obligations.FlagInstructionsAndNop := by
  intro s
  refine ⟨?_, rfl, ?_, rfl, ?_, rfl, ?_, rfl, ?_, rfl, ?_, rfl, ?_, rfl, ?_, rfl⟩
  all_goals exact row_of_table rfl rfl rfl

end

section
/-! Interrupts: which of the three ways a CPU step goes, and the two entries (60 R233 to R240). -/

namespace Sys2Proof.Claims

open Sys2Proof.Machine

/-- The step of a machine with no fault recorded, from what its CPU step answers. -/
theorem step_of_cpuStep {s t : State} {c : Nat} (hf : s.fault = none)
    (h : cpuStep s.irqLevel (polled s) = .next (c, t)) : step s = .next (settled c t) := by
  have hpolled : s.nextInput = polled s := rfl
  simp only [step, systemStep, hf, hpolled, h]
  rfl

/-- A step is decided by the recorded fault and by what its CPU step answers. -/
theorem step_congr {s s' : State} (hf : s.fault = s'.fault)
    (h : cpuStep s.irqLevel (polled s) = cpuStep s'.irqLevel (polled s')) : step s = step s' := by
  have hpolled (u : State) : u.nextInput = polled u := rfl
  simp only [step, systemStep, hf, hpolled, h]

theorem cpuStep_of_nmiPending {s : State} (irq : Bool) (h : s.nmiPending = true) :
    cpuStep irq s = .next (7, nmiEntry s) :=
  if_pos h

theorem cpuStep_of_irq {s : State} (hnmi : s.nmiPending = false) (hi : s.p.i = false) :
    cpuStep true s = .next (7, irqEntry s) := by
  simp only [cpuStep, hnmi, hi, Bool.false_eq_true, if_false, Bool.not_false, Bool.and_true, if_true]

/-- With I set or an NMI pending, the sampled level is not looked at. -/
theorem cpuStep_of_masked {s : State} (h : s.p.i = true ∨ s.nmiPending = true) (irq irq' : Bool) :
    cpuStep irq s = cpuStep irq' s := by
  rcases h with hi | hnmi
  · simp only [cpuStep, hi, Bool.not_true, Bool.false_and]
  · rw [cpuStep_of_nmiPending irq hnmi, cpuStep_of_nmiPending irq' hnmi]

theorem inv_polled {s : State} (hs : s.Inv) : (polled s).Inv :=
  ⟨hs.ram, hs.cart, hs.ppu, hs.pads⟩

theorem nmiEntry_eq_entered (s : State) :
    nmiEntry s = entered s.pc (statusByte s.p false) 0xFFFA { s with nmiPending := false } :=
  takeException_eq_entered (vector := nmiVector) (by decide) s.pc false (s.setNmiPending false)

theorem irqEntry_eq_entered (s : State) : irqEntry s = entered s.pc (statusByte s.p false) 0xFFFE s :=
  takeException_eq_entered (vector := irqVector) (by decide) s.pc false s

theorem nmiEntry_stacks3 {s : State} (hs : s.Inv) : Stacks3 s.pc (statusByte s.p false) s (nmiEntry s) :=
  takeException_stacks3 (vector := nmiVector) (by decide) s.pc false (inv_setNmiPending false hs)

theorem irqEntry_stacks3 {s : State} (hs : s.Inv) : Stacks3 s.pc (statusByte s.p false) s (irqEntry s) :=
  takeException_stacks3 (vector := irqVector) (by decide) s.pc false hs

end Sys2Proof.Claims

open Sys2Proof Sys2Proof.Machine Sys2Proof.Claims

/-- Settles O6: the CPU's part of the state is all that a meaning can change. -/
theorem everyInstructionCompletes : Obligations.EveryInstructionCompletes :=
  exec_eq_next

/-- Settles O7: the pending NMI decides the CPU step, and its entry is the shared one. -/
theorem nmiEntryFollowsItsRule : Obligations.NmiEntryFollowsItsRule :=
  fun s hf hnmi => ⟨nmiEntry (polled s), nmiEntry_eq_entered (polled s),
    step_of_cpuStep hf (cpuStep_of_nmiPending s.irqLevel hnmi), fun hs => nmiEntry_stacks3 (inv_polled hs)⟩

/-- Settles O8: with no NMI pending and I clear, the asserted line decides the CPU step. -/
theorem irqEntryFollowsItsRule : Obligations.IrqEntryFollowsItsRule := by
  intro s hf hnmi hirq hi
  have hcpu : cpuStep s.irqLevel (polled s) = .next (7, irqEntry (polled s)) := by
    rw [hirq]
    exact cpuStep_of_irq hnmi hi
  exact ⟨irqEntry (polled s), irqEntry_eq_entered (polled s), step_of_cpuStep hf hcpu,
    fun hs => irqEntry_stacks3 (inv_polled hs)⟩

/-- Settles O9: the two states differ in the level alone, which a masked CPU step does not look at. -/
theorem maskedIrqMakesNoDifference : Obligations.MaskedIrqMakesNoDifference :=
  fun s l l' rest h => step_congr (s := { s with irqIn := l :: rest }) (s' := { s with irqIn := l' :: rest }) rfl
    (cpuStep_of_masked (s := polled { s with irqIn := l :: rest }) h l l')

end

section
/-! The loopy registers, field by field: the masks of the register writes and of the scroll increments are fields
(60 R259 to R261). -/

namespace Sys2Proof.Claims

open Sys2Proof.Machine

/-! Bitwise operations on two numbers cut at the same bit. -/

section
variable {k a b c d : Nat} (ha : a < 2 ^ k) (hc : c < 2 ^ k)
include ha hc

theorem and_of_split : (a + 2 ^ k * b) &&& (c + 2 ^ k * d) = (a &&& c) + 2 ^ k * (b &&& d) := by
  have hpos := Nat.two_pow_pos k
  rw [← Nat.mod_add_div ((a + 2 ^ k * b) &&& (c + 2 ^ k * d)) (2 ^ k), Nat.and_mod_two_pow, Nat.and_div_two_pow]
  simp only [Nat.add_mul_mod_self_left, Nat.mod_eq_of_lt ha, Nat.mod_eq_of_lt hc, Nat.add_mul_div_left _ _ hpos,
    Nat.div_eq_of_lt ha, Nat.div_eq_of_lt hc, Nat.zero_add]

theorem or_of_split : (a + 2 ^ k * b) ||| (c + 2 ^ k * d) = (a ||| c) + 2 ^ k * (b ||| d) := by
  have hpos := Nat.two_pow_pos k
  rw [← Nat.mod_add_div ((a + 2 ^ k * b) ||| (c + 2 ^ k * d)) (2 ^ k), Nat.or_mod_two_pow, Nat.or_div_two_pow]
  simp only [Nat.add_mul_mod_self_left, Nat.mod_eq_of_lt ha, Nat.mod_eq_of_lt hc, Nat.add_mul_div_left _ _ hpos,
    Nat.div_eq_of_lt ha, Nat.div_eq_of_lt hc, Nat.zero_add]

theorem xor_of_split : (a + 2 ^ k * b) ^^^ (c + 2 ^ k * d) = (a ^^^ c) + 2 ^ k * (b ^^^ d) := by
  have hpos := Nat.two_pow_pos k
  rw [← Nat.mod_add_div ((a + 2 ^ k * b) ^^^ (c + 2 ^ k * d)) (2 ^ k), Nat.xor_mod_two_pow, Nat.xor_div_two_pow]
  simp only [Nat.add_mul_mod_self_left, Nat.mod_eq_of_lt ha, Nat.mod_eq_of_lt hc, Nat.add_mul_div_left _ _ hpos,
    Nat.div_eq_of_lt ha, Nat.div_eq_of_lt hc, Nat.zero_add]

end

/-- A mask of `m` bits from bit `k` on. -/
theorem and_field (w k m : Nat) : w &&& 2 ^ k * (2 ^ m - 1) = 2 ^ k * (w / 2 ^ k % 2 ^ m) := by
  have hsplit := and_of_split (b := w / 2 ^ k) (d := 2 ^ m - 1) (Nat.mod_lt w (Nat.two_pow_pos k)) (Nat.two_pow_pos k)
  rwa [Nat.mod_add_div, Nat.and_zero, Nat.zero_add, Nat.zero_add, Nat.and_two_pow_sub_one_eq_mod] at hsplit

/-! The fields of a loopy register. -/

theorem loopy_toNat {x y n f : Nat} (hx : x < 32) (hy : y < 32) (hn : n < 4) (hf : f < 8) :
    (loopy x y n f).toNat = x + 2 ^ 5 * (y + 2 ^ 5 * (n + 2 ^ 2 * f)) := by
  rw [loopy, BitVec.toNat_ofNat]
  omega

/-- Every register is made of its own fields. -/
theorem eq_loopy (u : BitVec 15) :
    u = loopy (u.toNat % 32) (u.toNat / 32 % 32) (u.toNat / 1024 % 4) (u.toNat / 4096) := by
  apply BitVec.eq_of_toNat_eq
  rw [loopy_toNat] <;> omega

section
variable {x y n f x' y' n' f' : Nat} (hx : x < 32) (hy : y < 32) (hn : n < 4) (hf : f < 8)
  (hx' : x' < 32) (hy' : y' < 32) (hn' : n' < 4) (hf' : f' < 8)
include hx hy hn hf hx' hy' hn' hf'

theorem loopy_inj : loopy x y n f = loopy x' y' n' f' ↔ x = x' ∧ y = y' ∧ n = n' ∧ f = f' := by
  rw [BitVec.toNat_inj.symm, loopy_toNat hx hy hn hf, loopy_toNat hx' hy' hn' hf']
  omega

theorem loopy_and_loopy :
    loopy x y n f &&& loopy x' y' n' f' = loopy (x &&& x') (y &&& y') (n &&& n') (f &&& f') := by
  apply BitVec.eq_of_toNat_eq
  rw [BitVec.toNat_and, loopy_toNat hx hy hn hf, loopy_toNat hx' hy' hn' hf', and_of_split hx hx', and_of_split hy hy',
    and_of_split hn hn', loopy_toNat (Nat.and_lt_two_pow (n := 5) _ hx') (Nat.and_lt_two_pow (n := 5) _ hy')
      (Nat.and_lt_two_pow (n := 2) _ hn') (Nat.and_lt_two_pow (n := 3) _ hf')]

theorem loopy_or_loopy :
    loopy x y n f ||| loopy x' y' n' f' = loopy (x ||| x') (y ||| y') (n ||| n') (f ||| f') := by
  apply BitVec.eq_of_toNat_eq
  rw [BitVec.toNat_or, loopy_toNat hx hy hn hf, loopy_toNat hx' hy' hn' hf', or_of_split hx hx', or_of_split hy hy',
    or_of_split hn hn', loopy_toNat (Nat.or_lt_two_pow (n := 5) hx hx') (Nat.or_lt_two_pow (n := 5) hy hy')
      (Nat.or_lt_two_pow (n := 2) hn hn') (Nat.or_lt_two_pow (n := 3) hf hf')]

theorem loopy_xor_loopy :
    loopy x y n f ^^^ loopy x' y' n' f' = loopy (x ^^^ x') (y ^^^ y') (n ^^^ n') (f ^^^ f') := by
  apply BitVec.eq_of_toNat_eq
  rw [BitVec.toNat_xor, loopy_toNat hx hy hn hf, loopy_toNat hx' hy' hn' hf', xor_of_split hx hx', xor_of_split hy hy',
    xor_of_split hn hn', loopy_toNat (Nat.xor_lt_two_pow (n := 5) hx hx') (Nat.xor_lt_two_pow (n := 5) hy hy')
      (Nat.xor_lt_two_pow (n := 2) hn hn') (Nat.xor_lt_two_pow (n := 3) hf hf')]

end

/-! A mask of whole fields keeps those fields. -/

theorem and_31_of_lt {x : Nat} (hx : x < 32) : x &&& 31 = x := Nat.and_two_pow_sub_one_of_lt_two_pow (n := 5) hx

theorem and_3_of_lt {n : Nat} (hn : n < 4) : n &&& 3 = n := Nat.and_two_pow_sub_one_of_lt_two_pow (n := 2) hn

theorem and_7_of_lt {f : Nat} (hf : f < 8) : f &&& 7 = f := Nat.and_two_pow_sub_one_of_lt_two_pow (n := 3) hf

/-! A toggle of one bit of the nametable. -/

theorem xor_1_of_lt : ∀ n < 4, n ^^^ 1 = n / 2 * 2 + (1 - n % 2) := by decide

theorem xor_2_of_lt : ∀ n < 4, n ^^^ 2 = (1 - n / 2) * 2 + n % 2 := by decide

section
variable {x y n f : Nat} (hx : x < 32) (hy : y < 32) (hn : n < 4) (hf : f < 8)
include hx hy hn hf

theorem loopy_and_0x001F : loopy x y n f &&& 0x001F = loopy x 0 0 0 := by
  rw [show (0x001F : BitVec 15) = loopy 31 0 0 0 from rfl]
  simp (disch := omega) only [loopy_and_loopy, and_31_of_lt, Nat.and_zero]

theorem loopy_and_0x7FE0 : loopy x y n f &&& 0x7FE0 = loopy 0 y n f := by
  rw [show (0x7FE0 : BitVec 15) = loopy 0 31 3 7 from rfl]
  simp (disch := omega) only [loopy_and_loopy, and_31_of_lt, and_3_of_lt, and_7_of_lt, Nat.and_zero]

theorem loopy_and_0x0C1F : loopy x y n f &&& 0x0C1F = loopy x 0 n 0 := by
  rw [show (0x0C1F : BitVec 15) = loopy 31 0 3 0 from rfl]
  simp (disch := omega) only [loopy_and_loopy, and_31_of_lt, and_3_of_lt, Nat.and_zero]

theorem loopy_and_0x0FFF : loopy x y n f &&& 0x0FFF = loopy x y n 0 := by
  rw [show (0x0FFF : BitVec 15) = loopy 31 31 3 0 from rfl]
  simp (disch := omega) only [loopy_and_loopy, and_31_of_lt, and_3_of_lt, Nat.and_zero]

theorem loopy_and_0x7C1F : loopy x y n f &&& 0x7C1F = loopy x 0 n f := by
  rw [show (0x7C1F : BitVec 15) = loopy 31 0 3 7 from rfl]
  simp (disch := omega) only [loopy_and_loopy, and_31_of_lt, and_3_of_lt, and_7_of_lt, Nat.and_zero]

/-! The scroll increments on the fields (60 R260, R261). -/

theorem loopy_shift_12 : (loopy x y n f >>> 12).toNat = f := by
  rw [BitVec.toNat_ushiftRight, Nat.shiftRight_eq_div_pow, loopy_toNat hx hy hn hf]
  omega

theorem coarseY_loopy : coarseY (loopy x y n f) = BitVec.ofNat 15 y := by
  apply BitVec.eq_of_toNat_eq
  rw [coarseY, BitVec.toNat_and, BitVec.toNat_ushiftRight, Nat.shiftRight_eq_div_pow, loopy_toNat hx hy hn hf]
  change _ &&& (2 ^ 5 - 1) = _
  rw [Nat.and_two_pow_sub_one_eq_mod, BitVec.toNat_ofNat]
  omega

theorem withCoarseY_loopy {y' : Nat} (hy' : y' < 32) :
    withCoarseY (loopy x y n f) (BitVec.ofNat 15 y') = loopy x y' n f := by
  have hshift : BitVec.ofNat 15 y' <<< 5 = loopy 0 y' 0 0 := by
    apply BitVec.eq_of_toNat_eq
    rw [BitVec.toNat_shiftLeft, Nat.shiftLeft_eq, BitVec.toNat_ofNat, loopy, BitVec.toNat_ofNat]
    omega
  change (loopy x y n f &&& (0x7C1F : BitVec 15)) ||| (BitVec.ofNat 15 y' <<< 5) = _
  rw [loopy_and_0x7C1F hx hy hn hf, hshift]
  simp (disch := omega) only [loopy_or_loopy, Nat.or_zero, Nat.zero_or]

theorem incrementHorizontal_loopy : incrementHorizontal (loopy x y n f) =
    if x = 31 then loopy 0 y (n / 2 * 2 + (1 - n % 2)) f else loopy (x + 1) y n f := by
  have hcoarse : loopy x y n f &&& 0x001F = 0x001F ↔ x = 31 := by
    rw [loopy_and_0x001F hx hy hn hf, show (0x001F : BitVec 15) = loopy 31 0 0 0 from rfl,
      loopy_inj] <;> omega
  simp only [incrementHorizontal, hcoarse]
  split
  · have hn' : n ^^^ 1 = n / 2 * 2 + (1 - n % 2) := xor_1_of_lt n hn
    rw [loopy_and_0x7FE0 hx hy hn hf, show (0x0400 : BitVec 15) = loopy 0 0 1 0 from rfl]
    simp (disch := omega) only [loopy_xor_loopy, Nat.xor_zero, hn']
  · apply BitVec.eq_of_toNat_eq
    rw [BitVec.toNat_add, loopy_toNat hx hy hn hf, loopy_toNat (by omega) hy hn hf]
    simp
    omega

theorem incrementVertical_loopy : incrementVertical (loopy x y n f) =
    if f < 7 then loopy x y n (f + 1)
    else if y = 29 then loopy x 0 ((1 - n / 2) * 2 + n % 2) 0
    else if y = 31 then loopy x 0 n 0
    else loopy x (y + 1) n 0 := by
  have hy29 : BitVec.ofNat 15 y = 29 ↔ y = 29 := by rw [← BitVec.toNat_inj, BitVec.toNat_ofNat]; simp; omega
  have hy31 : BitVec.ofNat 15 y = 31 ↔ y = 31 := by rw [← BitVec.toNat_inj, BitVec.toNat_ofNat]; simp; omega
  have hn' : n ^^^ 2 = (1 - n / 2) * 2 + n % 2 := xor_2_of_lt n hn
  simp only [incrementVertical, loopy_shift_12 hx hy hn hf, loopy_and_0x0FFF hx hy hn hf,
    coarseY_loopy hx hy hn (f := 0) (by decide), hy29, hy31]
  split_ifs with h7 h29 h31
  · apply BitVec.eq_of_toNat_eq
    rw [BitVec.toNat_add, loopy_toNat hx hy hn hf, loopy_toNat hx hy hn (by omega)]
    simp
    omega
  · rw [show (0x0800 : BitVec 15) = loopy 0 0 2 0 from rfl]
    simp (disch := omega) only [loopy_xor_loopy, Nat.xor_zero, hn']
    exact withCoarseY_loopy hx hy (by omega) (f := 0) (by decide) (y' := 0) (by decide)
  · exact withCoarseY_loopy hx hy hn (f := 0) (by decide) (y' := 0) (by decide)
  · rw [show BitVec.ofNat 15 y + 1 = BitVec.ofNat 15 (y + 1) from (BitVec.ofNat_add y 1).symm]
    exact withCoarseY_loopy hx hy hn (f := 0) (by decide) (by omega)

end

end Sys2Proof.Claims

open Sys2Proof Sys2Proof.Machine Sys2Proof.Claims

/-- Settles O49: the two increments on the fields. -/
theorem scrollIncrements : Obligations.ScrollIncrements :=
  fun _ hx _ hy _ hn _ hf => ⟨incrementHorizontal_loopy hx hy hn hf, incrementVertical_loopy hx hy hn hf⟩

end

section
/-! The PPU's registers: each access in closed form, with the open-bus latch as the statements write it
(60 R247 to R258). -/

namespace Sys2Proof.Claims

open Sys2Proof.Machine

/-! The open-bus latch after a refresh (60 R262). -/

/-- A refresh of every bit. -/
theorem refresh_all {u : Ppu} (v : Byte) (h : u.Inv) : u.refresh 0xFF v = refreshed v u := by
  obtain ⟨hlen, -⟩ := (timersInRange_iff u).mp h.timers
  have htimers : (u.refresh 0xFF v).obTimers = [0, 0, 0, 0, 0, 0, 0, 0] := by
    match hu : u.obTimers, hlen with
    | [_, _, _, _, _, _, _, _], _ => simp only [Ppu.refresh, hu]; rfl
  calc u.refresh 0xFF v = { u with ob := mergeBits 0xFF v u.ob, obTimers := (u.refresh 0xFF v).obTimers } := rfl
    _ = refreshed v u := by rw [htimers, mergeBits_all]; rfl

/-- A status read refreshes its three bits alone, and the others are those of the latch already (60 R251). -/
theorem mergeBits_statusByte (u : Ppu) : mergeBits 0xE0 u.statusByte u.ob = u.statusByte := by
  have h : ∀ (p q r : Bool) (ob : Byte),
      mergeBits 0xE0 (bitAt p 7 ||| bitAt q 6 ||| bitAt r 5 ||| (ob &&& 0x1F)) ob =
        bitAt p 7 ||| bitAt q 6 ||| bitAt r 5 ||| (ob &&& 0x1F) := by decide +kernel
  exact h u.vblank u.sprite0Hit u.spriteOverflow u.ob

/-- The latch after a status read: the byte read, with the timers of bits 7 to 5 started again. -/
theorem refresh_statusByte {u : Ppu} (h : u.Inv) : u.refresh 0xE0 u.statusByte =
    { u with ob := u.statusByte, obTimers := u.obTimers.take 5 ++ [0, 0, 0] } := by
  obtain ⟨hlen, -⟩ := (timersInRange_iff u).mp h.timers
  have htimers : (u.refresh 0xE0 u.statusByte).obTimers = u.obTimers.take 5 ++ [0, 0, 0] := by
    match hu : u.obTimers, hlen with
    | [_, _, _, _, _, _, _, _], _ => simp only [Ppu.refresh, hu]; rfl
  calc u.refresh 0xE0 u.statusByte = { u with
        ob := mergeBits 0xE0 u.statusByte u.ob
        obTimers := (u.refresh 0xE0 u.statusByte).obTimers } := rfl
    _ = _ := by rw [htimers, mergeBits_statusByte]

theorem statusByte_toNat (u : Ppu) : u.statusByte.toNat =
    128 * u.vblank.toNat + 64 * u.sprite0Hit.toNat + 32 * u.spriteOverflow.toNat + u.ob.toNat % 32 := by
  have h : ∀ (p q r : Bool) (ob : Byte), (bitAt p 7 ||| bitAt q 6 ||| bitAt r 5 ||| (ob &&& 0x1F)).toNat =
      128 * p.toNat + 64 * q.toNat + 32 * r.toNat + ob.toNat % 32 := by decide +kernel
  exact h u.vblank u.sprite0Hit u.spriteOverflow u.ob

/-- Without vblank the NMI output falls, and a fall leaves the latch (60 R234). -/
theorem updateNmiOut_of_not_vblank {s : State} (h : s.ppu.vblank = false) :
    updateNmiOut s = s.setPpu { s.ppu with nmiOut := false } := by
  simp only [updateNmiOut, h, Bool.false_and, Bool.or_false]
  rfl

/-! $2000 (60 R248). -/

/-- The nametable bits of a byte written to $2000, in their place in t. -/
theorem nametable_seed (v : Byte) : (v &&& 0x03).setWidth 15 <<< 10 = BitVec.ofNat 15 (v.toNat % 4 * 1024) := by
  revert v
  decide +kernel

section
variable {a : Word} {s : State} (hs : s.Inv)
include hs

theorem memWrite_ctrl (v : Byte) (h : Selects 0 a) :
    memWrite a v s = { s with
      nmiPending := s.nmiPending || (s.ppu.vblank && v.getLsbD 7 && !s.ppu.ctrl.getLsbD 7)
      ppu := { refreshed v s.ppu with
        ctrl := v
        t := (s.ppu.t &&& 0x73FF) ||| BitVec.ofNat 15 (v.toNat % 4 * 1024)
        nmiOut := s.ppu.vblank && v.getLsbD 7 } } := by
  have hrise : (s.ppu.vblank && v.getLsbD 7 && !s.ppu.nmiOut) =
      (s.ppu.vblank && v.getLsbD 7 && !s.ppu.ctrl.getLsbD 7) := by
    rw [hs.ppu.nmiOut]
    cases s.ppu.vblank <;> simp
  rw [memWrite_of_ppu s v h, ← hrise, ← nametable_seed]
  change writeCtrl v (s.setPpu (s.ppu.refresh 0xFF v)) = _
  rw [refresh_all v hs.ppu]
  rfl

/-! $2002 (60 R251). -/

theorem memRead_status (h : Selects 2 a) :
    memRead a s = (s.ppu.statusByte, { s with ppu := { s.ppu with
      vblank := false
      w := false
      ob := s.ppu.statusByte
      obTimers := s.ppu.obTimers.take 5 ++ [0, 0, 0]
      nmiOut := false } }) := by
  rw [memRead_of_ppu s h]
  change (s.ppu.statusByte, updateNmiOut (s.setPpu { s.ppu.refresh 0xE0 s.ppu.statusByte with
    vblank := false
    w := false })) = _
  rw [refresh_statusByte hs.ppu, updateNmiOut_of_not_vblank rfl]
  rfl

/-! The registers with no effect but their own byte, and $2004 (60 R249, R250, R252, R253). -/

theorem memWrite_mask (v : Byte) (h : Selects 1 a) :
    memWrite a v s = { s with ppu := { refreshed v s.ppu with mask := v } } := by
  rw [memWrite_of_ppu s v h, ← refresh_all v hs.ppu]
  rfl

theorem memWrite_status (v : Byte) (h : Selects 2 a) : memWrite a v s = { s with ppu := refreshed v s.ppu } := by
  rw [memWrite_of_ppu s v h, ← refresh_all v hs.ppu]
  rfl

theorem memWrite_oamAddr (v : Byte) (h : Selects 3 a) :
    memWrite a v s = { s with ppu := { refreshed v s.ppu with oamAddr := v } } := by
  rw [memWrite_of_ppu s v h, ← refresh_all v hs.ppu]
  rfl

theorem memWrite_oamData (v : Byte) (h : Selects 4 a) :
    memWrite a v s = { s with ppu := { refreshed v s.ppu with
      oam := s.ppu.oam.write s.ppu.oamAddr.toNat (attributeMasked s.ppu.oamAddr.toNat v)
      oamAddr := byte (s.ppu.oamAddr.toNat + 1) } } := by
  rw [memWrite_of_ppu s v h, ← refresh_all v hs.ppu, ← add_one_eq_byte]
  rfl

theorem memRead_oamData (h : Selects 4 a) {r : Byte}
    (hr : r = attributeMasked s.ppu.oamAddr.toNat (s.ppu.oam.read s.ppu.oamAddr.toNat)) :
    memRead a s = (r, { s with ppu := refreshed r s.ppu }) := by
  rw [memRead_of_ppu s h, ← refresh_all r hs.ppu, hr]
  rfl

omit hs in
theorem memRead_openBus {r : Nat} (hr : r ∈ [0, 1, 3, 5, 6]) (h : Selects r a) : memRead a s = (s.ppu.ob, s) := by
  rw [memRead_of_ppu s h]
  fin_cases hr <;> rfl

end
end Sys2Proof.Claims

open Sys2Proof Sys2Proof.Machine Sys2Proof.Claims

/-- Settles O41: the NMI output before the write is vblank and the old enable, by the invariant. -/
theorem ctrlWriteCanRaiseNmi : Obligations.CtrlWriteCanRaiseNmi :=
  fun _ v _ hs => memWrite_ctrl hs v

/-- Settles O42: the latch's low bits stand in the byte read, so that all of the latch is that byte afterwards. -/
theorem statusReadClearsVblank : Obligations.StatusReadClearsVblank :=
  fun _ s hs h => ⟨s.ppu.statusByte, _, memRead_status hs h, statusByte_toNat s.ppu, rfl⟩

/-- Settles O43: one register each. -/
theorem oamAndSimpleRegisters : Obligations.OamAndSimpleRegisters :=
  fun _ v _ hs => ⟨memWrite_mask hs v, memWrite_status hs v, memWrite_oamAddr hs v, fun _ hr => memRead_openBus hr,
    memWrite_oamData hs v, fun h => ⟨_, rfl, memRead_oamData hs h rfl⟩⟩

end

section
/-! $2005 and $2006, and the port at $2007 (60 R254 to R258). -/

namespace Sys2Proof.Claims

open Sys2Proof.Machine

/-! t after each of the four writes, in fields or in bytes (60 R254, R255). -/

theorem t_scroll_first (t : BitVec 15) (v : Byte) : (t &&& (0x7FE0 : BitVec 15)) ||| (v >>> 3).setWidth 15 =
    loopy (v.toNat / 8) (t.toNat / 32 % 32) (t.toNat / 1024 % 4) (t.toNat / 4096) := by
  have hcoarse : ∀ v : Byte, (v >>> 3).setWidth 15 = loopy (v.toNat / 8) 0 0 0 := by decide +kernel
  have ht := t.isLt
  have hv := v.isLt
  conv_lhs => rw [eq_loopy t]
  rw [hcoarse]
  simp (disch := omega) only [loopy_and_0x7FE0, loopy_or_loopy, Nat.or_zero, Nat.zero_or]

theorem t_scroll_second (t : BitVec 15) (v : Byte) :
    (t &&& (0x0C1F : BitVec 15)) ||| ((v &&& 0x07).setWidth 15 <<< 12) ||| ((v >>> 3).setWidth 15 <<< 5) =
      loopy (t.toNat % 32) (v.toNat / 8) (t.toNat / 1024 % 4) (v.toNat % 8) := by
  have hfine : ∀ v : Byte, (v &&& 0x07).setWidth 15 <<< 12 = loopy 0 0 0 (v.toNat % 8) := by decide +kernel
  have hcoarse : ∀ v : Byte, (v >>> 3).setWidth 15 <<< 5 = loopy 0 (v.toNat / 8) 0 0 := by decide +kernel
  have ht := t.isLt
  have hv := v.isLt
  conv_lhs => rw [eq_loopy t]
  rw [hfine, hcoarse]
  simp (disch := omega) only [loopy_and_0x0C1F, loopy_or_loopy, Nat.or_zero, Nat.zero_or]

theorem t_addr_first (t : BitVec 15) (v : Byte) :
    (t &&& (0x00FF : BitVec 15)) ||| ((v &&& 0x3F).setWidth 15 <<< 8) =
      BitVec.ofNat 15 (v.toNat % 64 * 256 + t.toNat % 256) := by
  have hhigh : ∀ v : Byte, ((v &&& 0x3F).setWidth 15 <<< 8).toNat = 2 ^ 8 * (v.toNat % 64) := by decide +kernel
  have hlow : (t &&& (0x00FF : BitVec 15)).toNat = t.toNat % 256 := (and_field _ 0 8).trans (by omega)
  apply BitVec.eq_of_toNat_eq
  rw [BitVec.toNat_or, hhigh, hlow, Nat.or_comm, ← Nat.two_pow_add_eq_or_of_lt (by omega), BitVec.toNat_ofNat]
  omega

theorem t_addr_second (t : BitVec 15) (v : Byte) : (t &&& (0x7F00 : BitVec 15)) ||| v.setWidth 15 =
    BitVec.ofNat 15 (t.toNat / 256 * 256 + v.toNat) := by
  have hv := v.isLt
  have hhigh : (t &&& (0x7F00 : BitVec 15)).toNat = 2 ^ 8 * (t.toNat / 256) := (and_field _ 8 7).trans (by omega)
  have hlow : (v.setWidth 15).toNat = v.toNat := BitVec.toNat_setWidth_of_le (by decide)
  apply BitVec.eq_of_toNat_eq
  rw [BitVec.toNat_or, hhigh, hlow, ← Nat.two_pow_add_eq_or_of_lt (by omega), BitVec.toNat_ofNat]
  omega

section
variable {a b : Word} {s : State} (hs : s.Inv)
include hs

theorem memWrite_scroll_first (v : Byte) (h : Selects 5 a) (hw : s.ppu.w = false) :
    memWrite a v s = { s with ppu := { refreshed v s.ppu with
      t := loopy (v.toNat / 8) (s.ppu.t.toNat / 32 % 32) (s.ppu.t.toNat / 1024 % 4) (s.ppu.t.toNat / 4096)
      fineX := BitVec.ofNat 3 v.toNat
      w := true } } := by
  rw [memWrite_of_ppu s v h, ← t_scroll_first]
  change s.setPpu ((s.ppu.refresh 0xFF v).writeScroll v) = _
  rw [Ppu.writeScroll, refresh_w, hw, refresh_all v hs.ppu]
  rfl

theorem memWrite_scroll_second (v : Byte) (h : Selects 5 a) (hw : s.ppu.w = true) :
    memWrite a v s = { s with ppu := { refreshed v s.ppu with
      t := loopy (s.ppu.t.toNat % 32) (v.toNat / 8) (s.ppu.t.toNat / 1024 % 4) (v.toNat % 8)
      w := false } } := by
  rw [memWrite_of_ppu s v h, ← t_scroll_second]
  change s.setPpu ((s.ppu.refresh 0xFF v).writeScroll v) = _
  rw [Ppu.writeScroll, refresh_w, hw, refresh_all v hs.ppu]
  rfl

theorem memWrite_addr_first (v : Byte) (h : Selects 6 a) (hw : s.ppu.w = false) :
    memWrite a v s = { s with ppu := { refreshed v s.ppu with
      t := BitVec.ofNat 15 (v.toNat % 64 * 256 + s.ppu.t.toNat % 256)
      w := true } } := by
  rw [memWrite_of_ppu s v h, ← t_addr_first]
  change s.setPpu ((s.ppu.refresh 0xFF v).writeAddr v) = _
  rw [Ppu.writeAddr, refresh_w, hw, refresh_all v hs.ppu]
  rfl

theorem memWrite_addr_second (v : Byte) (h : Selects 6 a) (hw : s.ppu.w = true) :
    memWrite a v s = { s with ppu := { refreshed v s.ppu with
      t := BitVec.ofNat 15 (s.ppu.t.toNat / 256 * 256 + v.toNat)
      v := BitVec.ofNat 15 (s.ppu.t.toNat / 256 * 256 + v.toNat)
      w := false } } := by
  rw [memWrite_of_ppu s v h, ← t_addr_second]
  change s.setPpu ((s.ppu.refresh 0xFF v).writeAddr v) = _
  rw [Ppu.writeAddr, refresh_w, hw, refresh_all v hs.ppu]
  rfl

/-- Two writes of $2005 set all of the scroll. -/
theorem memWrite_scroll_pair (v1 v2 : Byte) (ha : Selects 5 a) (hb : Selects 5 b) (hw : s.ppu.w = false) :
    memWrite b v2 (memWrite a v1 s) = { s with ppu := { refreshed v2 s.ppu with
      t := loopy (v1.toNat / 8) (v2.toNat / 8) (s.ppu.t.toNat / 1024 % 4) (v2.toNat % 8)
      fineX := BitVec.ofNat 3 v1.toNat } } := by
  have hfirst := memWrite_scroll_first hs v1 ha hw
  have hw1 : (memWrite a v1 s).ppu.w = true := by rw [hfirst]
  have ht := s.ppu.t.isLt
  have hv := v1.isLt
  have ht1 : (memWrite a v1 s).ppu.t.toNat = v1.toNat / 8 + 2 ^ 5 * (s.ppu.t.toNat / 32 % 32 +
      2 ^ 5 * (s.ppu.t.toNat / 1024 % 4 + 2 ^ 2 * (s.ppu.t.toNat / 4096))) := by
    rw [hfirst]
    exact loopy_toNat (by omega) (by omega) (by omega) (by omega)
  have hx : (memWrite a v1 s).ppu.t.toNat % 32 = v1.toNat / 8 := by omega
  have hn : (memWrite a v1 s).ppu.t.toNat / 1024 % 4 = s.ppu.t.toNat / 1024 % 4 := by omega
  rw [memWrite_scroll_second (hs.memWrite a v1) v2 hb hw1, hx, hn, hfirst, ← hw]
  rfl

/-- Two writes of $2006 set all of the address. -/
theorem memWrite_addr_pair (v1 v2 : Byte) (ha : Selects 6 a) (hb : Selects 6 b) (hw : s.ppu.w = false) :
    memWrite b v2 (memWrite a v1 s) = { s with ppu := { refreshed v2 s.ppu with
      t := BitVec.ofNat 15 (v1.toNat % 64 * 256 + v2.toNat)
      v := BitVec.ofNat 15 (v1.toNat % 64 * 256 + v2.toNat) } } := by
  have hfirst := memWrite_addr_first hs v1 ha hw
  have hw1 : (memWrite a v1 s).ppu.w = true := by rw [hfirst]
  have ht1 : (memWrite a v1 s).ppu.t.toNat = (v1.toNat % 64 * 256 + s.ppu.t.toNat % 256) % 2 ^ 15 := by
    rw [hfirst]
    exact BitVec.toNat_ofNat _ _
  have hhigh : (memWrite a v1 s).ppu.t.toNat / 256 * 256 = v1.toNat % 64 * 256 := by omega
  rw [memWrite_addr_second (hs.memWrite a v1) v2 hb hw1, hhigh, hfirst, ← hw]
  rfl

end

/-! $2007 (60 R256 to R258). -/

theorem ppu_address_eq (u : Ppu) : u.address = address (u.v.toNat % 0x4000) := by
  have hmask : u.address.toNat = 2 ^ 0 * ((u.v.setWidth 16).toNat / 2 ^ 0 % 2 ^ 14) := and_field _ 0 14
  apply BitVec.eq_of_toNat_eq
  rw [hmask, BitVec.toNat_setWidth, address, BitVec.toNat_ofNat]
  omega

theorem incrementV_eq (u : Ppu) : u.incrementV =
    { u with v := BitVec.ofNat 15 (u.v.toNat + if u.ctrl.getLsbD 2 then 32 else 1) } := by
  rw [BitVec.ofNat_add, BitVec.ofNat_toNat, BitVec.setWidth_eq, Ppu.incrementV]
  split <;> rfl

/-- The nametable under a palette address (60 R256). -/
theorem and_0x2FFF_of_palette {k : Word} (hlo : 0x3F00 ≤ k.toNat) (hhi : k.toNat < 0x4000) :
    k &&& 0x2FFF = k - 0x1000 := by
  have hsplit := and_of_split (k := 12) (a := k.toNat % 2 ^ 12) (b := k.toNat / 2 ^ 12) (c := 0xFFF) (d := 2)
    (by omega) (by decide)
  rw [Nat.mod_add_div, Nat.and_two_pow_sub_one_of_lt_two_pow (n := 12) (by omega),
    show k.toNat / 2 ^ 12 = 3 by omega] at hsplit
  have hand : (k &&& 0x2FFF).toNat = k.toNat % 2 ^ 12 + 2 ^ 12 * 2 := hsplit
  bv_omega

/-- A palette byte under the top two bits of the latch (60 R256). -/
theorem or_openBus_toNat {c : Byte} (hc : c.toNat < 64) (ob : Byte) :
    ((c &&& 0x3F) ||| (ob &&& 0xC0)).toNat = c.toNat + ob.toNat / 64 * 64 := by
  have hlow : (c &&& 0x3F).toNat = c.toNat := (and_field _ 0 6).trans (by omega)
  have hhigh : (ob &&& 0xC0).toNat = 2 ^ 6 * (ob.toNat / 64) := (and_field _ 6 2).trans (by omega)
  rw [BitVec.toNat_or, hlow, hhigh, Nat.or_comm, ← Nat.two_pow_add_eq_or_of_lt hc]
  omega

theorem ppuWrite_refreshed (k : Word) (v r : Byte) (s : State) :
    ppuWrite k v (s.setPpu (refreshed r s.ppu)) = (ppuWrite k v s).setPpu (refreshed r (ppuWrite k v s).ppu) := by
  simp only [ppuWrite]
  split_ifs <;> rfl

section
variable {a : Word} {s : State} (hs : s.Inv)
include hs

/-- With no DMA active, a read gives its byte and refills the buffer, by the range of the address (60 R256). -/
theorem readData_eq {r buffer : Byte}
    (hr : r = if 0x3F00 ≤ s.ppu.address.toNat then (ppuRead s.ppu.address s &&& 0x3F) ||| (s.ppu.ob &&& 0xC0)
      else s.ppu.readBuffer)
    (hbuffer : buffer = if 0x3F00 ≤ s.ppu.address.toNat then ppuRead (s.ppu.address &&& 0x2FFF) s
      else ppuRead s.ppu.address s) :
    readData s = (r, { s with ppu := { refreshed r s.ppu with
      readBuffer := buffer
      v := BitVec.ofNat 15 (s.ppu.v.toNat + if s.ppu.ctrl.getLsbD 2 then 32 else 1) } }) := by
  have hidle : ¬ s.ppu.dmaActive = true := Bool.eq_false_iff.mp hs.ppu.dmaActive
  have hread : readData s = (r, s.setPpu (Ppu.refresh 0xFF r (Ppu.incrementV { s.ppu with readBuffer := buffer }))) := by
    simp only [readData, if_neg hidle, decide_eq_true_eq, ← hr, ← hbuffer]
  rw [hread, refresh_all r (hs.ppu.setReadBuffer buffer).incrementV, incrementV_eq]
  rfl

theorem memWrite_data (v : Byte) (h : Selects 7 a) :
    let k := address (s.ppu.v.toNat % 0x4000)
    memWrite a v s = { ppuWrite k v s with ppu := { refreshed v (ppuWrite k v s).ppu with
      v := BitVec.ofNat 15 (s.ppu.v.toNat + if s.ppu.ctrl.getLsbD 2 then 32 else 1) } } := by
  intro k
  have hk : (s.setPpu (refreshed v s.ppu)).ppu.address = k := ppu_address_eq s.ppu
  rw [memWrite_of_ppu s v h]
  change writeData v (s.setPpu (s.ppu.refresh 0xFF v)) = _
  rw [refresh_all v hs.ppu, writeData, hk, ppuWrite_refreshed, incrementV_eq, ← ppuWrite_ppu_v k v s,
    ← ppuWrite_ppu_ctrl k v s]
  rfl

end

end Sys2Proof.Claims
open Sys2Proof Sys2Proof.Machine Sys2Proof.Claims

/-- Settles O44: four writes, each at its value of the toggle; a pair is the second write after the first. -/
theorem scrollAndAddressWrites : Obligations.ScrollAndAddressWrites :=
  fun _ _ v1 v2 _ hs => ⟨memWrite_scroll_first hs v1, memWrite_scroll_second hs v1, memWrite_addr_first hs v1,
    memWrite_addr_second hs v1, fun hw ha hb => memWrite_scroll_pair hs v1 v2 ha hb hw,
    fun hw ha hb => memWrite_addr_pair hs v1 v2 ha hb hw⟩

/-- Settles O45: the two ranges of a read, and the write through the memory map. -/
theorem dataPort : Obligations.DataPort := by
  intro a v s hs h k next
  have hk : s.ppu.address = k := ppu_address_eq s.ppu
  have hread : memRead a s = readData s := memRead_of_ppu s h
  refine ⟨fun hlow => ?_, fun hpalette => ?_, memWrite_data hs v h⟩
  · have hnot : ¬ 0x3F00 ≤ s.ppu.address.toNat := by rw [hk]; omega
    rw [hread, readData_eq hs (if_neg hnot).symm (if_neg hnot).symm, hk]
  · have hlt : k.toNat < 0x4000 := (Nat.mod_le _ _).trans_lt (Nat.mod_lt _ (by decide))
    have hcolour : (ppuRead k s).toNat < 64 := by
      rw [ppuRead_palette (by omega)]
      exact hs.ppu.colours _ (paletteIndex_lt _)
    have hrange : 0x3F00 ≤ s.ppu.address.toNat := by rw [hk]; exact hpalette
    refine ⟨(ppuRead k s &&& 0x3F) ||| (s.ppu.ob &&& 0xC0), or_openBus_toNat hcolour s.ppu.ob, ?_⟩
    rw [hread, readData_eq hs (if_pos hrange).symm (if_pos hrange).symm, hk, and_0x2FFF_of_palette hpalette hlt]

end

section
/-! The open-bus latch over many cycles, bit by bit (60 R262). -/

namespace Sys2Proof.Claims

open Sys2Proof.Machine

/-- A bit stays until its own timer reaches its threshold, whatever the other bits do. -/
theorem ticks_ob_getLsbD {u : Ppu} {i : Nat} (n : Nat) (hi : i < 8) (hlen : u.obTimers.length = 8)
    (hmax : u.obTimers.getD i 0 ≤ obThresholds.getD i 0)
    (hdecayed : u.obTimers.getD i 0 < obThresholds.getD i 0 ∨ u.ob.getLsbD i = false) :
    (ticks n u).ob.getLsbD i = (u.ob.getLsbD i && decide (u.obTimers.getD i 0 + n < obThresholds.getD i 0)) := by
  induction n generalizing u with
  | zero =>
    rcases hdecayed with h | h
    · rw [ticks, Nat.add_zero, decide_eq_true h, Bool.and_true]
    · rw [ticks, h, Bool.false_and]
  | succ n ih =>
    have hob := openBusTick_ob_getLsbD hlen hi
    have htimer := openBusTick_obTimers_getD hlen hi
    have hdecayed' : u.openBusTick.obTimers.getD i 0 < obThresholds.getD i 0 ∨ u.openBusTick.ob.getLsbD i = false := by
      rw [hob, Bool.and_eq_false_iff, decide_eq_false_iff_not]
      tauto
    rw [ticks, ih (openBusTick_obTimers_length hlen) (by rw [htimer]; split <;> omega) hdecayed', hob, Bool.and_assoc,
      ← Bool.decide_and]
    rcases hdecayed with h | h
    · rw [htimer, if_pos h]
      congr 2
      exact propext (by omega)
    · rw [h, Bool.false_and, Bool.false_and]

end Sys2Proof.Claims

open Sys2Proof Sys2Proof.Machine Sys2Proof.Claims

/-- Settles O46: one bit and its timer, by induction on the ticks. -/
theorem openBusBitsDecay : Obligations.OpenBusBitsDecay := by
  intro u n i htimers hdecayed hi
  obtain ⟨hlen, hmax⟩ := (timersInRange_iff u).mp htimers
  exact ticks_ob_getLsbD n hi hlen (hmax i hi) ((decayed_iff u).mp hdecayed i hi)

end

section
/-! The controller ports, each as the reads of it see it (60 R273 to R275). -/

namespace Sys2Proof.Claims

open Sys2Proof.Machine

/-- One port: the strobe, its buttons and its shift register. -/
structure Port where
  strobe : Bool
  buttons : Byte
  shift : Byte

/-- Port 2 where `second`, else port 1. -/
def portOf (second : Bool) (u : Pads) : Port :=
  if second then ⟨u.strobe, u.buttons2, u.shift2⟩ else ⟨u.strobe, u.buttons1, u.shift1⟩

/-- The address of a port. -/
def portAddr (second : Bool) : Word :=
  if second then 0x4017 else 0x4016

/-- The bit that a read of a port gives. -/
def Port.bit (p : Port) : Bool :=
  if p.strobe then p.buttons.getLsbD 0 else p.shift.getLsbD 0

/-- The port after a read. -/
def Port.next (p : Port) : Port :=
  { p with shift := if p.strobe then p.buttons else shiftOut p.shift }

/-- The bits that a run of reads of a port gives. -/
def Port.bits : Nat → Port → List Bool
  | 0, _ => []
  | n + 1, p => p.bit :: Port.bits n p.next

/-! A read of one port of a state. -/

theorem memRead_portAddr_bit (second : Bool) (s : State) :
    (memRead (portAddr second) s).1.getLsbD 0 = (portOf second s.pads).bit := by
  cases second
  · rw [show portAddr false = 0x4016 from rfl, memRead_of_pad1 s rfl, padByte_bit0, Pads.read1, apply_ite Prod.fst]
    rfl
  · rw [show portAddr true = 0x4017 from rfl, memRead_of_pad2 s rfl, padByte_bit0, Pads.read2, apply_ite Prod.fst]
    rfl

theorem memRead_portAddr_same (second : Bool) (s : State) :
    portOf second (memRead (portAddr second) s).2.pads = (portOf second s.pads).next := by
  cases second
  · rw [show portAddr false = 0x4016 from rfl, memRead_of_pad1 s rfl]
    change portOf false s.pads.read1.2 = _
    unfold Pads.read1
    split <;> simp_all [portOf, Port.next]
  · rw [show portAddr true = 0x4017 from rfl, memRead_of_pad2 s rfl]
    change portOf true s.pads.read2.2 = _
    unfold Pads.read2
    split <;> simp_all [portOf, Port.next]

/-- A read of the other port leaves this one. -/
theorem memRead_portAddr_other (second : Bool) (s : State) :
    portOf second (memRead (portAddr !second) s).2.pads = portOf second s.pads := by
  cases second
  · rw [show portAddr (!false) = 0x4017 from rfl, memRead_of_pad2 s rfl]
    change portOf false s.pads.read2.2 = _
    unfold Pads.read2
    split <;> rfl
  · rw [show portAddr (!true) = 0x4016 from rfl, memRead_of_pad1 s rfl]
    change portOf true s.pads.read1.2 = _
    unfold Pads.read1
    split <;> rfl

/-! Runs of reads. -/

theorem padBits_eq (second : Bool) (n : Nat) (s : State) :
    padBits (portAddr second) n s = (portOf second s.pads).bits n := by
  induction n generalizing s with
  | zero => rfl
  | succ n ih => rw [padBits, ih, memRead_portAddr_bit, memRead_portAddr_same, Port.bits]

theorem portOf_readPad_other (second : Bool) (m : Nat) (s : State) :
    portOf second (readPad (portAddr !second) m s).pads = portOf second s.pads := by
  induction m generalizing s with
  | zero => rfl
  | succ m ih => rw [readPad, ih, memRead_portAddr_other]

/-- At a strobe of 1 every read gives the A button (60 R275). -/
theorem bits_of_strobe (n : Nat) (buttons shift : Byte) :
    Port.bits n ⟨true, buttons, shift⟩ = List.replicate n (buttons.getLsbD 0) := by
  induction n generalizing shift with
  | zero => rfl
  | succ n ih =>
    rw [Port.bits, List.replicate_succ]
    exact congrArg (buttons.getLsbD 0 :: ·) (ih buttons)

theorem shiftOut_getLsbD (shift : Byte) {k : Nat} (hk : k < 8) :
    (shiftOut shift).getLsbD k = if k + 1 < 8 then shift.getLsbD (k + 1) else true := by
  have h : ∀ (shift : Byte) (k : Fin 8),
      (shiftOut shift).getLsbD k = if k.val + 1 < 8 then shift.getLsbD (k + 1) else true := by decide +kernel
  exact h shift ⟨k, hk⟩

/-- At a strobe of 0 the reads shift the register out from bit 0 on, with 1s behind it (60 R275). -/
theorem bits_of_not_strobe (n : Nat) (buttons shift : Byte) :
    Port.bits n ⟨false, buttons, shift⟩ =
      (List.range n).map fun k => if k < 8 then shift.getLsbD k else true := by
  induction n generalizing shift with
  | zero => rfl
  | succ n ih =>
    have htail : Port.bits n ⟨false, buttons, shiftOut shift⟩ =
        (List.range n).map fun k => if k + 1 < 8 then shift.getLsbD (k + 1) else true := by
      rw [ih]
      refine List.map_congr_left fun k _ => ?_
      split
      case isTrue hk => exact shiftOut_getLsbD shift hk
      case isFalse hk => rw [if_neg (by omega)]
    rw [List.range_succ_eq_map, List.map_cons, List.map_map]
    exact congrArg (shift.getLsbD 0 :: ·) htail

/-! The strobe's write (60 R274). -/

theorem memWrite_strobe_clear (s : State) {v : Byte} (h : v.getLsbD 0 = false) :
    memWrite 0x4016 v s = { s with pads := { s.pads with strobe := false } } := by
  rw [memWrite_of_pad1 s v rfl, Pads.writeStrobe, h]
  rfl

theorem memWrite_strobe_set (s : State) {v : Byte} (h : v.getLsbD 0 = true) :
    memWrite 0x4016 v s = { s with pads := { s.pads with
      strobe := true
      shift1 := s.pads.buttons1
      shift2 := s.pads.buttons2 } } := by
  rw [memWrite_of_pad1 s v rfl, Pads.writeStrobe, h]
  rfl

end Sys2Proof.Claims

open Sys2Proof Sys2Proof.Machine Sys2Proof.Claims

/-- Settles O54: the write loads both registers; a run of reads of one port depends on that port alone. -/
theorem controllerReadsShiftOutTheButtons : Obligations.ControllerReadsShiftOutTheButtons := by
  intro s v1 v0 n m h1 h0
  have hset := memWrite_strobe_set s h1
  have hclear := memWrite_strobe_clear (memWrite 0x4016 v1 s) h0
  have hread (second : Bool) (t : State) : padBits (portAddr second) n (readPad (portAddr !second) m t) =
      (portOf second t.pads).bits n := by
    rw [padBits_eq, portOf_readPad_other]
  refine ⟨memWrite_strobe_clear s h0, hset, (hread false _).trans ?_, (hread true _).trans ?_, (hread false _).trans ?_,
    (hread true _).trans ?_, fun hs => hs.pads.buttons2⟩
  · rw [hset]
    exact bits_of_strobe n _ _
  · rw [hset]
    exact bits_of_strobe n _ _
  · rw [hclear, hset]
    exact bits_of_not_strobe n _ _
  · rw [hclear, hset]
    exact bits_of_not_strobe n _ _

end

section
/-! The driver frame: every step counts a cycle or records a fault, so that the fuel lasts (60 R291; log 17). -/

namespace Sys2Proof.Claims

open Sys2Proof.Machine

/-- Every entry of the table counts at least 2 cycles (30 R105). -/
theorem two_le_baseCycles {b : Byte} {row : TableRow} (h : table b = some row) : 2 ≤ row.baseCycles := by
  have hall : ∀ b : Byte, (table b).all (fun row => decide (2 ≤ row.baseCycles)) = true := by decide +kernel
  have hrow := hall b
  rw [h] at hrow
  exact of_decide_eq_true hrow

theorem baseCycles_le_cycles (row : TableRow) (t : State) : row.baseCycles ≤ cycles row t := by
  rw [cycles, Nat.add_assoc]
  exact Nat.le_add_right _ _

/-- A CPU step that answers no count of a cycle records a fault. -/
theorem cpuStep_counts_or_faults {irq : Bool} {s t : State} {c : Nat} (h : cpuStep irq s = .next (c, t)) :
    0 < c ∨ t.fault ≠ none := by
  unfold cpuStep at h
  split at h
  case isTrue => cases h; exact .inl (by decide)
  case isFalse =>
    split at h
    case isTrue => cases h; exact .inl (by decide)
    case isFalse =>
      simp only [runInstruction] at h
      cases hrow : table (fetchByte s).1 with
      | none =>
        rw [hrow] at h
        cases h
        exact .inr (Option.some_ne_none _)
      | some row =>
        rw [hrow] at h
        obtain ⟨u, hu, -⟩ := exec_eq_next (row.make
          (fetchOperands row.mode.operandLength (fetchByte s).2.beginInstruction).1.1
          (fetchOperands row.mode.operandLength (fetchByte s).2.beginInstruction).1.2)
          (fetchOperands row.mode.operandLength (fetchByte s).2.beginInstruction).2
        simp only [execute, hu] at h
        cases h
        have hbase := two_le_baseCycles hrow
        have hcycles := baseCycles_le_cycles row t
        exact .inl (by omega)

/-- No part of a CPU step counts its cycles. -/
theorem totalCycles_cpuClosed (k : Nat) : CpuClosed fun t => t.totalCycles = k where
  setA _ h := h
  setX _ h := h
  setY _ h := h
  setSp _ h := h
  setPc _ h := h
  setP _ h := h
  setPageCrossed _ h := h
  setBranchTaken _ h := h
  memRead a h := (memRead_totalCycles a _).trans h
  memWrite a v h := (memWrite_totalCycles a v _).trans h
  setDmaStall _ h := h
  setNmiPending h := h
  setFault _ h := h

/-- A step of a machine with no fault recorded counts a cycle or records a fault. -/
theorem systemStep_counts_or_faults {s : State} (hf : s.fault = none) :
    ∃ t, systemStep s = .next t ∧ (s.totalCycles < t.totalCycles ∨ t.fault ≠ none) := by
  obtain ⟨c, u, hu, htotal⟩ := (totalCycles_cpuClosed s.totalCycles).cpuStep s.irqLevel (s := s.nextInput) rfl
  refine ⟨catchUp c u, by simp only [systemStep, hf, hu], ?_⟩
  have hcaught : (catchUp c u).totalCycles = s.totalCycles + c := by
    rw [catchUp, ppuSteps_totalCycles, setTotalCycles_totalCycles, htotal]
  have hfault : (catchUp c u).fault = u.fault := by rw [catchUp, ppuSteps_fault, setTotalCycles_fault]
  rw [hcaught, hfault]
  exact (cpuStep_counts_or_faults hu).imp_left Nat.lt_add_of_pos_right

/-- The loop ends at its bound or with a fault, given fuel for one cycle a step. -/
theorem runUntil_reaches {target : Nat} (fuel : Nat) (s : State)
    (h : target ≤ s.totalCycles + fuel ∨ s.fault ≠ none) :
    ∃ t, runUntil target fuel s = .next t ∧ (target ≤ t.totalCycles ∨ t.fault ≠ none) := by
  induction fuel generalizing s with
  | zero => exact ⟨s, rfl, h⟩
  | succ fuel ih =>
    unfold runUntil
    split
    case isTrue hgo =>
      obtain ⟨hlt, hnone⟩ := Bool.and_eq_true_iff.mp hgo
      have hf : s.fault = none := Option.isNone_iff_eq_none.mp hnone
      obtain ⟨t, ht, hcounts⟩ := systemStep_counts_or_faults hf
      have hfuel : target ≤ s.totalCycles + (fuel + 1) := h.resolve_right (absurd hf)
      rw [ht]
      exact ih t (hcounts.imp_left fun hc => by omega)
    case isFalse hstop =>
      refine ⟨s, rfl, ?_⟩
      rw [Bool.and_eq_true_iff, Option.isNone_iff_eq_none, decide_eq_true_iff] at hstop
      by_cases hf : s.fault = none
      · exact .inl (not_lt.mp fun hlt => hstop ⟨hlt, hf⟩)
      · exact .inr hf

end Sys2Proof.Claims

open Sys2Proof Sys2Proof.Machine Sys2Proof.Claims

/-- Settles O59: the fuel is the number of cycles to count, and every step counts one. -/
theorem driverFrameReachesItsBound : Obligations.DriverFrameReachesItsBound :=
  fun s buttons => runUntil_reaches frameCycles (s.setPads (s.pads.setButtons buttons)) (.inl le_rfl)

end

section
/-! Sprite evaluation and the sprite pixel, as loops (60 R267, R268). -/

namespace Sys2Proof.Claims

open Sys2Proof.Machine

/-! Sprite evaluation. -/

theorem spriteHeight_cast (u : Ppu) : (u.spriteHeight : Int) = if u.ctrl.getLsbD 5 then 16 else 8 := by
  unfold Ppu.spriteHeight
  split <;> rfl

/-- Whether a sprite is in range, as the loops ask it. -/
theorem spriteInRange_iff (line : Int) (u : Ppu) (y : Byte) : spriteInRange line u.spriteHeight y = true ↔
    0 ≤ line - ((y.toNat : Int) + 1) ∧ line - ((y.toNat : Int) + 1) < if u.ctrl.getLsbD 5 then 16 else 8 := by
  rw [spriteInRange, spriteHeight_cast, Bool.and_eq_true, decide_eq_true_iff, decide_eq_true_iff]
  rfl

/-- The loop from any secondary OAM on: it takes the sprites in range up to eight, and the one after them overflows. -/
theorem evaluationLoop_eq (u : Ppu) (line : Int) (l : List Nat) {secondary : List SpriteEntry} (overflow : Bool)
    (h : secondary.length ≤ 8) :
    let found := l.filter fun i => spriteInRange line u.spriteHeight (u.oam.read (4 * i))
    evaluationLoop u line l secondary overflow =
      (secondary ++ (found.take (8 - secondary.length)).map u.spriteEntry,
        overflow || decide (8 < secondary.length + found.length)) := by
  induction l generalizing secondary with
  | nil => simp [evaluationLoop, h]
  | cons i rest ih =>
    simp only [evaluationLoop, ← spriteInRange_iff]
    split
    case isTrue hin =>
      rw [List.filter_cons, if_pos hin]
      split
      case isTrue hroom =>
        rw [ih (by rw [List.length_append]; exact hroom)]
        obtain ⟨k, hk⟩ : ∃ k, 8 - secondary.length = k + 1 := ⟨7 - secondary.length, by omega⟩
        rw [List.length_append, List.length_singleton, hk, show 8 - (secondary.length + 1) = k by omega,
          List.take_succ_cons, List.map_cons, List.append_assoc, List.length_cons]
        congr 3
        exact propext (by omega)
      case isFalse hfull =>
        rw [show 8 - secondary.length = 0 by omega, List.take_zero, List.map_nil, List.append_nil,
          decide_eq_true (by rw [List.length_cons]; omega), Bool.or_true]
    case isFalse hout =>
      rw [List.filter_cons, if_neg hout]
      exact ih h

/-! The sprite pixel. -/

/-- The pattern address of a sprite's row, as a number (60 R268). -/
def spritePattern (ctrl tile : Byte) (height row : Nat) : Nat :=
  if height = 8 then (if ctrl.getLsbD 3 then 0x1000 else 0) + tile.toNat * 16 + row
  else tile.toNat % 2 * 0x1000 + (tile.toNat / 2 * 2 + if 8 ≤ row then 1 else 0) * 16 + row % 8

theorem spritePatternAddr_eq (ctrl tile : Byte) (height row : Nat) :
    spritePatternAddr ctrl tile height row = address (spritePattern ctrl tile height row) := by
  have htile := tile.isLt
  have hbank : ∀ tile : Byte, zext16 (tile &&& 1) = address (tile.toNat % 2) := by decide +kernel
  have heven : ∀ tile : Byte, zext16 (tile &&& 0xFE) = address (tile.toNat / 2 * 2) := by decide +kernel
  unfold spritePatternAddr spritePattern
  split
  · rw [zext16_eq_address]
    split <;> simp [address, BitVec.ofNat_add, BitVec.ofNat_mul]
  · rw [hbank, heven]
    split <;> simp [address, BitVec.ofNat_add, BitVec.ofNat_mul]

theorem planesPixel_eq (lo hi : Byte) (bit : Nat) :
    planesPixel lo hi bit = BitVec.ofNat 2 ((lo.getLsbD bit).toNat + 2 * (hi.getLsbD bit).toNat) := by
  unfold planesPixel
  cases lo.getLsbD bit <;> cases hi.getLsbD bit <;> rfl

theorem planesPixel_eq_zero (lo hi : Byte) (bit : Nat) :
    planesPixel lo hi bit = 0 ↔ (lo.getLsbD bit).toNat + 2 * (hi.getLsbD bit).toNat = 0 := by
  unfold planesPixel
  cases lo.getLsbD bit <;> cases hi.getLsbD bit <;> decide

/-- The two planes of a pattern row, 8 bytes apart. -/
theorem patternPixel_address (n bit : Nat) (s : State) : patternPixel (address n) bit s =
    planesPixel (ppuRead (address n) s) (ppuRead (address (n + 8)) s) bit := by
  rw [patternPixel, show address n + 8 = address (n + 8) from (BitVec.ofNat_add n 8).symm]

theorem spritePattern_cast (ctrl tile : Byte) (height row : Nat) :
    (if (height : Int) = 8 then (if ctrl.getLsbD 3 then 0x1000 else 0) + (tile.toNat : Int) * 16 + row
      else (tile.toNat : Int) % 2 * 0x1000 + ((tile.toNat : Int) / 2 * 2 + if 8 ≤ (row : Int) then 1 else 0) * 16 +
        (row : Int) % 8) = (spritePattern ctrl tile height row : Int) := by
  unfold spritePattern
  split_ifs <;> omega

/-- One entry's pixel, and the entries after it where that one is transparent. -/
theorem spriteLoop_cons (px : Nat) (line : Int) (s : State) (e : SpriteEntry) (rest : List SpriteEntry) :
    spriteLoop px line s (e :: rest) = (entryPixel px line s e).or (spriteLoop px line s rest) := by
  have hrange := spriteInRange_iff line s.ppu e.y
  rw [← spriteHeight_cast] at hrange
  rw [entryPixel]
  simp only [spriteLoop, ← spriteHeight_cast]
  by_cases hin : e.x.toNat ≤ px ∧ px < e.x.toNat + 8 ∧ spriteInRange line s.ppu.spriteHeight e.y = true
  case neg =>
    rw [if_neg hin, if_neg (by rw [hrange] at hin; omega), Option.none_or]
  case pos =>
    obtain ⟨hlo, hhi, hrow⟩ := hin
    obtain ⟨hrow0, hrowh⟩ := hrange.mp hrow
    obtain ⟨c, hc⟩ : ∃ c : Nat, (px : Int) - e.x.toNat = c := ⟨px - e.x.toNat, by omega⟩
    obtain ⟨r, hr⟩ := Int.eq_ofNat_of_zero_le hrow0
    have hcNat : px - e.x.toNat = c := by omega
    have hrNat : (spriteRow line e.y).toNat = r := by rw [spriteRow, spriteYOffset, hr, Int.toNat_natCast]
    have hcol : (if e.attr.toNat.testBit 6 then 7 - (c : Int) else c) =
        ((if e.attr.getLsbD 6 then 7 - c else c : Nat) : Int) := by
      rw [BitVec.getLsbD]
      split <;> omega
    have hflip : (if e.attr.toNat.testBit 7 then (s.ppu.spriteHeight : Int) - 1 - r else r) =
        ((if e.attr.getLsbD 7 then s.ppu.spriteHeight - 1 - r else r : Nat) : Int) := by
      rw [BitVec.getLsbD]
      split <;> omega
    have hinLoop : 0 ≤ (c : Int) ∧ (c : Int) < 8 ∧ 0 ≤ (r : Int) ∧ (r : Int) < s.ppu.spriteHeight := by omega
    have hinEntry : e.x.toNat ≤ px ∧ px < e.x.toNat + 8 ∧ spriteInRange line s.ppu.spriteHeight e.y = true :=
      ⟨hlo, hhi, hrow⟩
    simp only [hc, hr, hcol, hflip, spritePattern_cast, Int.toNat_natCast, hcNat, hrNat, spritePatternAddr_eq,
      patternPixel_address, planesPixel_eq_zero, if_pos hinLoop, if_pos hinEntry]
    generalize (if e.attr.getLsbD 6 = true then 7 - c else c) = col
    generalize (if e.attr.getLsbD 7 = true then s.ppu.spriteHeight - 1 - r else r) = row
    split
    case isTrue => rw [planesPixel_eq]; rfl
    case isFalse hclear => rw [if_pos (not_not.mp hclear), Option.none_or]

theorem spriteLoop_eq (px : Nat) (line : Int) (s : State) (l : List SpriteEntry) :
    l.findSome? (entryPixel px line s) = spriteLoop px line s l := by
  induction l with
  | nil => rfl
  | cons e rest ih =>
    rw [spriteLoop_cons, List.findSome?_cons, ih]
    cases entryPixel px line s e <;> rfl

end Sys2Proof.Claims

open Sys2Proof Sys2Proof.Machine Sys2Proof.Claims

/-- Settles O51: both loops by induction on the sprites left. -/
theorem spritesFollowTheirLoops : Obligations.SpritesFollowTheirLoops := by
  refine ⟨fun u line => ?_, fun px line s => ?_⟩
  · have hloop := evaluationLoop_eq u line (List.range 64) (secondary := []) u.spriteOverflow (by decide)
    refine ⟨_, rfl, ?_, ?_⟩
    · rw [hloop, Ppu.evaluateSprites, List.length_nil, Nat.zero_add]
      rfl
    · rw [hloop, List.nil_append, List.length_map, List.length_take]
      exact Nat.min_le_left _ _
  · rw [spritePixel, spriteLoop_eq]

end

section
/-! The background pixel, and how a pixel's two layers resolve (60 R266, R269, R270). -/

namespace Sys2Proof.Claims

open Sys2Proof.Machine

/-! Where the tile and the attribute byte of a loopy address are (60 R266). -/

section
variable {x y n f : Nat} (hx : x < 32) (hy : y < 32) (hn : n < 4) (hf : f < 8)
include hx hy hn hf

theorem loopy_setWidth_toNat : ((loopy x y n f).setWidth 16).toNat = x + 32 * y + 1024 * n + 4096 * f := by
  rw [BitVec.toNat_setWidth, loopy_toNat hx hy hn hf]
  omega

theorem tileAddr_loopy : (0x2000 : Word) ||| ((loopy x y n f).setWidth 16 &&& 0x0FFF) =
    address (0x2000 + 0x400 * n + 32 * y + x) := by
  have hw := loopy_setWidth_toNat hx hy hn hf
  have hlow : ((loopy x y n f).setWidth 16 &&& (0x0FFF : Word)).toNat = _ := and_field _ 0 12
  have hor := Nat.two_pow_add_eq_or_of_lt (i := 13) (a := 1) (b := 1024 * n + 32 * y + x) (by omega)
  apply BitVec.eq_of_toNat_eq
  rw [BitVec.toNat_or, hlow, hw, address, BitVec.toNat_ofNat]
  rw [show 2 ^ 0 * ((x + 32 * y + 1024 * n + 4096 * f) / 2 ^ 0 % 2 ^ 12) = 1024 * n + 32 * y + x by omega]
  refine hor.symm.trans ?_
  omega

theorem attrAddr_loopy : (0x23C0 : Word) ||| ((loopy x y n f).setWidth 16 &&& (0x0C00 : Word)) |||
    (((loopy x y n f).setWidth 16 >>> 4) &&& (0x38 : Word)) |||
    (((loopy x y n f).setWidth 16 >>> 2) &&& (0x07 : Word)) =
      address (0x23C0 + 0x400 * n + 8 * (y / 4) + x / 4) := by
  have hw := loopy_setWidth_toNat hx hy hn hf
  have htable : ((loopy x y n f).setWidth 16 &&& (0x0C00 : Word)).toNat = 1024 * n :=
    (and_field _ 10 2).trans (by omega)
  have hrow : (((loopy x y n f).setWidth 16 >>> 4) &&& (0x38 : Word)).toNat = 8 * (y / 4) :=
    (and_field _ 3 3).trans (by rw [BitVec.toNat_ushiftRight, Nat.shiftRight_eq_div_pow, hw]; omega)
  have hcol : (((loopy x y n f).setWidth 16 >>> 2) &&& (0x07 : Word)).toNat = x / 4 :=
    (and_field _ 0 3).trans (by rw [BitVec.toNat_ushiftRight, Nat.shiftRight_eq_div_pow, hw]; omega)
  have hbase : ∀ n < 4, 0x23C0 ||| 1024 * n = 2 ^ 6 * (0x8F + 16 * n) := by decide
  have hor6 := Nat.two_pow_add_eq_or_of_lt (i := 6) (b := 8 * (y / 4)) (by omega) (0x8F + 16 * n)
  have hor3 := Nat.two_pow_add_eq_or_of_lt (i := 3) (b := x / 4) (by omega) (8 * (0x8F + 16 * n) + y / 4)
  apply BitVec.eq_of_toNat_eq
  rw [BitVec.toNat_or, BitVec.toNat_or, BitVec.toNat_or, htable, hrow, hcol]
  change 0x23C0 ||| 1024 * n ||| 8 * (y / 4) ||| x / 4 = _
  rw [hbase n hn, ← hor6, show 2 ^ 6 * (0x8F + 16 * n) + 8 * (y / 4) = 2 ^ 3 * (8 * (0x8F + 16 * n) + y / 4) by omega,
    ← hor3, address, BitVec.toNat_ofNat]
  omega

theorem attrShift_loopy : ((((loopy x y n f).setWidth 16 >>> 4) &&& (0x04 : Word)) |||
    ((loopy x y n f).setWidth 16 &&& (0x02 : Word))).toNat = 2 * (2 * (y / 2 % 2) + x / 2 % 2) := by
  have hw := loopy_setWidth_toNat hx hy hn hf
  have hrow : (((loopy x y n f).setWidth 16 >>> 4) &&& (0x04 : Word)).toNat = 2 ^ 2 * (y / 2 % 2) :=
    (and_field _ 2 1).trans (by rw [BitVec.toNat_ushiftRight, Nat.shiftRight_eq_div_pow, hw]; omega)
  have hcol : ((loopy x y n f).setWidth 16 &&& (0x02 : Word)).toNat = 2 * (x / 2 % 2) :=
    (and_field _ 1 1).trans (by rw [hw]; omega)
  have hor := Nat.two_pow_add_eq_or_of_lt (i := 2) (b := 2 * (x / 2 % 2)) (by omega) (y / 2 % 2)
  rw [BitVec.toNat_or, hrow, hcol, ← hor]
  omega

theorem fineY_loopy : (loopy x y n f).setWidth 16 >>> 12 = address f := by
  apply BitVec.eq_of_toNat_eq
  rw [BitVec.toNat_ushiftRight, Nat.shiftRight_eq_div_pow, loopy_setWidth_toNat hx hy hn hf, address,
    BitVec.toNat_ofNat]
  omega

end

/-! The background pixel. -/

theorem bgPixel_of_hidden {px : Nat} {s : State}
    (h : s.ppu.mask.getLsbD 3 = false ∨ (px < 8 ∧ s.ppu.mask.getLsbD 1 = false)) : bgPixel px s = ⟨0, 0⟩ :=
  if_pos h

/-- The fields of the tile that a column lies in, `tv` of the rule (60 R266). -/
theorem tile_loopy {x y n f : Nat} (hx : x < 32) (hy : y < 32) (hn : n < 4) (hf : f < 8) (p : Nat) :
    (if 8 ≤ p then incrementHorizontal (loopy x y n f) else loopy x y n f) =
      loopy (if p < 8 then x else if x < 31 then x + 1 else 0) y
        (if p < 8 ∨ x < 31 then n else n / 2 * 2 + (1 - n % 2)) f := by
  rw [incrementHorizontal_loopy hx hy hn hf]
  by_cases hp : p < 8
  · rw [if_neg (by omega), if_pos hp, if_pos (.inl hp)]
  · rw [if_pos (by omega), if_neg hp]
    by_cases hx31 : x < 31
    · rw [if_neg (by omega), if_pos hx31, if_pos (.inr hx31)]
    · rw [if_pos (by omega), if_neg hx31, if_neg (by omega)]

theorem planesPixel_toNat (lo hi : Byte) (bit : Nat) :
    (planesPixel lo hi bit).toNat = (lo.getLsbD bit).toNat + 2 * (hi.getLsbD bit).toNat := by
  unfold planesPixel
  cases lo.getLsbD bit <;> cases hi.getLsbD bit <;> rfl

/-- The pattern address of a background tile's row (60 R266). -/
theorem bgPatternAddr_eq (upper : Bool) (tile : Byte) (f : Nat) :
    (if upper then (0x1000 : Word) else 0x0000) + zext16 tile * 16 + address f =
      address ((if upper then 0x1000 else 0) + 16 * tile.toNat + f) := by
  rw [zext16_eq_address, Nat.mul_comm]
  cases upper <;> simp [address, BitVec.ofNat_add, BitVec.ofNat_mul]

/-- Two bits of an attribute byte (60 R266). -/
theorem attr_shift_toNat (attr : Byte) (k : Nat) : ((attr >>> (2 * k)).setWidth 2).toNat = attr.toNat / 4 ^ k % 4 := by
  rw [BitVec.toNat_setWidth, BitVec.toNat_ushiftRight, Nat.shiftRight_eq_div_pow, Nat.pow_mul]

/-- A pixel that is shown, from the fields of the tile it lies in. -/
theorem bgPixel_of_tile {px x y n f : Nat} {s : State} (hx : x < 32) (hy : y < 32) (hn : n < 4) (hf : f < 8)
    (hshown : ¬ (s.ppu.mask.getLsbD 3 = false ∨ (px < 8 ∧ s.ppu.mask.getLsbD 1 = false)))
    (htile : (if 8 ≤ px % 8 + s.ppu.fineX.toNat then incrementHorizontal s.ppu.v else s.ppu.v) = loopy x y n f) :
    let p := px % 8 + s.ppu.fineX.toNat
    let tile := ppuRead (address (0x2000 + 0x400 * n + 32 * y + x)) s
    let row := (if s.ppu.ctrl.getLsbD 4 then 0x1000 else 0) + 16 * tile.toNat + f
    let attr := ppuRead (address (0x23C0 + 0x400 * n + 8 * (y / 4) + x / 4)) s
    bgPixel px s = ⟨planesPixel (ppuRead (address row) s) (ppuRead (address (row + 8)) s) (7 - p % 8),
      (attr >>> (2 * (2 * (y / 2 % 2) + x / 2 % 2))).setWidth 2⟩ := by
  intro p tile row attr
  rw [← patternPixel_address, ← bgPatternAddr_eq, ← fineY_loopy hx hy hn hf, ← attrShift_loopy hx hy hn hf, bgPixel,
    if_neg hshown]
  simp only [tile, attr, htile, ← tileAddr_loopy hx hy hn hf, ← attrAddr_loopy hx hy hn hf]
  rfl

/-! The pixel that is shown (60 R269, R270). -/

theorem bgAddr_eq (b : LayerPixel) : bgAddr b = address (0x3F00 + 4 * b.pal.toNat + b.pix.toNat) := by
  have h : ∀ pix pal : BitVec 2, (0x3F00 : Word) + pal.setWidth 16 * 4 + pix.setWidth 16 =
      address (0x3F00 + 4 * pal.toNat + pix.toNat) := by decide +kernel
  exact h b.pix b.pal

theorem spriteAddr_eq (p : SpritePixel) : spriteAddr p = address (0x3F10 + 4 * p.pal.toNat + p.pix.toNat) := by
  have h : ∀ pix pal : BitVec 2, (0x3F10 : Word) + pal.setWidth 16 * 4 + pix.setWidth 16 =
      address (0x3F10 + 4 * pal.toNat + pix.toNat) := by decide +kernel
  exact h p.pix p.pal

theorem isSprite0Hit_iff (px : Nat) (mask : Byte) (b : LayerPixel) (sp : Option SpritePixel) :
    isSprite0Hit px mask b sp = true ↔ ∃ p, sp = some p ∧ p.index = 0 ∧ b.pix ≠ 0 ∧ mask.getLsbD 3 = true ∧
      mask.getLsbD 4 = true ∧ px < 255 := by
  cases sp with
  | none => simp [isSprite0Hit]
  | some p => simp [isSprite0Hit, and_assoc]

theorem outputColour_eq (mask c : Byte) : outputColour mask c = Config.masterPalette
    (BitVec.ofNat 6 (if mask.getLsbD 0 then c &&& 0x30 else c).toNat) (BitVec.ofNat 3 (mask.toNat / 32)) := by
  have hemphasis : ∀ mask : Byte, (mask >>> 5).setWidth 3 = BitVec.ofNat 3 (mask.toNat / 32) := by decide +kernel
  rw [outputColour, hemphasis]
  rfl

end Sys2Proof.Claims

open Sys2Proof Sys2Proof.Machine Sys2Proof.Claims

/-- Settles O52: the tile's fields are those of v, or of v moved on by one tile. -/
theorem backgroundPixelReadsItsTile : Obligations.BackgroundPixelReadsItsTile := by
  intro s px x y n f hx hy hn hf hv
  refine ⟨bgPixel_of_hidden, ?_⟩
  intro hmask hclip p tx nt tile row lo hi attr
  have hshown : ¬ (s.ppu.mask.getLsbD 3 = false ∨ (px < 8 ∧ s.ppu.mask.getLsbD 1 = false)) := by
    rintro (h | ⟨h8, h1⟩)
    · exact absurd (hmask.symm.trans h) (by decide)
    · exact hclip.elim (by omega) fun h => absurd (h.symm.trans h1) (by decide)
  have htx : tx < 32 := by simp only [tx]; split_ifs <;> omega
  have hnt : nt < 4 := by simp only [nt]; split_ifs <;> omega
  have htile := tile_loopy hx hy hn hf p
  rw [← hv] at htile
  rw [bgPixel_of_tile htx hy hnt hf hshown htile]
  exact ⟨planesPixel_toNat _ _ _, attr_shift_toNat _ _⟩

/-- Settles O53: the address shown is the model's, case by case, and a pixel writes two fields of the PPU. -/
theorem pixelsResolveByPriority : Obligations.PixelsResolveByPriority := by
  intro px line s
  refine ⟨bgPixel px s, spritePixel px line s, pixelAddr (bgPixel px s) (spritePixel px line s), renderPixel px line s,
    rfl, rfl, rfl, fun hnone => ?_, fun p hsome => ?_, ?_, ?_⟩
  · rw [hnone, ← bgAddr_eq]
    rfl
  · rw [hsome, ← bgAddr_eq, ← spriteAddr_eq]
    rfl
  · rw [← isSprite0Hit_iff, ← Bool.or_eq_true]
    rfl
  · rw [← outputColour_eq]
    rfl

end

section
/-! One PPU cycle, field by field: the pixel, the events that move v, the sprites, vblank (60 R263 to R265). -/

namespace Sys2Proof.Machine

/-! Event 1, the pixel. -/

theorem pixelEvent_of_drawn {s : State} (hr : s.ppu.rendering = true) (hline : 0 ≤ s.ppu.scanline ∧ s.ppu.scanline ≤ 239)
    (hcycle : 1 ≤ s.ppu.cycle ∧ s.ppu.cycle ≤ 256) :
    pixelEvent s = renderPixel (s.ppu.cycle - 1) s.ppu.scanline.toNat s := by
  simp only [pixelEvent, Ppu.visible, hr, hline, hcycle, decide_true, Bool.and_self, if_true]

theorem pixelEvent_of_not_drawn {s : State}
    (h : ¬ ((0 ≤ s.ppu.scanline ∧ s.ppu.scanline ≤ 239) ∧ 1 ≤ s.ppu.cycle ∧ s.ppu.cycle ≤ 256)) : pixelEvent s = s := by
  refine if_neg fun hdrawn => h ?_
  simp only [Ppu.visible, Bool.and_eq_true, decide_eq_true_eq] at hdrawn
  obtain ⟨⟨⟨hline, -⟩, hfirst⟩, hlast⟩ := hdrawn
  exact ⟨hline, hfirst, hlast⟩

theorem pixelEvent_of_not_rendering {s : State} (h : s.ppu.rendering = false) : pixelEvent s = s := by
  simp only [pixelEvent, h, Bool.and_false, Bool.false_and, Bool.false_eq_true, if_false]

/-! Events 2 to 6: what each does to v, and what sprite evaluation does. -/

theorem scrollEvents_of_not_rendering {u : Ppu} (h : u.rendering = false) : u.scrollEvents = u := by
  simp only [Ppu.scrollEvents, coarseXEvent, yEvent, spriteEvent, horizontalEvent, verticalEvent, h, Bool.and_false,
    Bool.false_and, Bool.false_eq_true, if_false]

@[simp] theorem coarseXEvent_rendering (u : Ppu) : (coarseXEvent u).rendering = u.rendering := by
  simp only [Ppu.rendering, coarseXEvent_mask]

@[simp] theorem yEvent_rendering (u : Ppu) : (yEvent u).rendering = u.rendering := by
  simp only [Ppu.rendering, yEvent_mask]

@[simp] theorem spriteEvent_rendering (u : Ppu) : (spriteEvent u).rendering = u.rendering := by
  simp only [Ppu.rendering, spriteEvent_mask]

@[simp] theorem horizontalEvent_rendering (u : Ppu) : (horizontalEvent u).rendering = u.rendering := by
  simp only [Ppu.rendering, horizontalEvent_mask]

section
variable {u : Ppu} (hr : u.rendering = true)
include hr

theorem coarseXEvent_v : (coarseXEvent u).v =
    if 0 ≤ u.scanline ∧ u.scanline ≤ 239 ∧ 1 ≤ u.cycle ∧ u.cycle ≤ 256 ∧ (u.cycle - 1) % 8 = 7 then
      incrementHorizontal u.v else u.v := by
  rw [coarseXEvent, apply_ite Ppu.v]
  simp only [Ppu.visible, hr, Bool.and_eq_true, decide_eq_true_eq, and_true, and_assoc]

theorem yEvent_v : (yEvent u).v =
    if 0 ≤ u.scanline ∧ u.scanline ≤ 239 ∧ u.cycle = 256 then incrementVertical u.v else u.v := by
  rw [yEvent, apply_ite Ppu.v]
  simp only [Ppu.visible, hr, Bool.and_eq_true, decide_eq_true_eq, and_true, and_assoc]

theorem horizontalEvent_v : (horizontalEvent u).v =
    if -1 ≤ u.scanline ∧ u.scanline ≤ 239 ∧ u.cycle = 257 then (u.v &&& 0x7BE0) ||| (u.t &&& 0x041F) else u.v := by
  rw [horizontalEvent, apply_ite Ppu.v]
  simp only [Ppu.copyHorizontal, hr, Bool.and_eq_true, decide_eq_true_eq, and_true, and_assoc]

theorem verticalEvent_v : (verticalEvent u).v =
    if u.scanline = -1 ∧ 280 ≤ u.cycle ∧ u.cycle ≤ 304 then (u.v &&& 0x041F) ||| (u.t &&& 0x7BE0) else u.v := by
  rw [verticalEvent, apply_ite Ppu.v]
  simp only [Ppu.copyVertical, hr, Bool.and_eq_true, decide_eq_true_eq, and_true, and_assoc]

/-- v after the events of a cycle, by where the PPU is (60 R264). -/
theorem scrollEvents_v (hlow : -1 ≤ u.scanline) : u.scrollEvents.v =
    if (0 ≤ u.scanline ∧ u.scanline ≤ 239) ∧ u.cycle = 256 then incrementVertical (incrementHorizontal u.v)
    else if (0 ≤ u.scanline ∧ u.scanline ≤ 239) ∧ u.cycle < 256 ∧ u.cycle % 8 = 0 ∧ u.cycle ≠ 0 then
      incrementHorizontal u.v
    else if u.scanline ≤ 239 ∧ u.cycle = 257 then (u.v &&& 0x7BE0) ||| (u.t &&& 0x041F)
    else if u.scanline = -1 ∧ 280 ≤ u.cycle ∧ u.cycle ≤ 304 then (u.v &&& 0x041F) ||| (u.t &&& 0x7BE0)
    else u.v := by
  have h1 : (coarseXEvent u).rendering = true := by rw [coarseXEvent_rendering, hr]
  have h2 : (yEvent (coarseXEvent u)).rendering = true := by rw [yEvent_rendering, h1]
  have h3 : (spriteEvent (yEvent (coarseXEvent u))).rendering = true := by rw [spriteEvent_rendering, h2]
  have h4 : (horizontalEvent (spriteEvent (yEvent (coarseXEvent u)))).rendering = true := by
    rw [horizontalEvent_rendering, h3]
  rw [Ppu.scrollEvents, verticalEvent_v h4, horizontalEvent_v h3, spriteEvent_v, yEvent_v h1, coarseXEvent_v hr]
  simp only [horizontalEvent_scanline, horizontalEvent_cycle, horizontalEvent_t, spriteEvent_scanline,
    spriteEvent_cycle, spriteEvent_t, yEvent_scanline, yEvent_cycle, yEvent_t, coarseXEvent_scanline,
    coarseXEvent_cycle, coarseXEvent_t]
  by_cases h256 : (0 ≤ u.scanline ∧ u.scanline ≤ 239) ∧ u.cycle = 256
  · simp (disch := omega) only [if_pos, if_neg]
  by_cases hcoarse : (0 ≤ u.scanline ∧ u.scanline ≤ 239) ∧ u.cycle < 256 ∧ u.cycle % 8 = 0 ∧ u.cycle ≠ 0
  · simp (disch := omega) only [if_pos, if_neg]
  by_cases h257 : u.scanline ≤ 239 ∧ u.cycle = 257
  · simp (disch := omega) only [if_pos, if_neg]
  by_cases hpre : u.scanline = -1 ∧ 280 ≤ u.cycle ∧ u.cycle ≤ 304
  · simp (disch := omega) only [if_pos, if_neg]
  · simp (disch := omega) only [if_neg]

end

theorem spriteEvent_of_evaluated {u : Ppu} (hr : u.rendering = true) (hline : 0 ≤ u.scanline ∧ u.scanline ≤ 239)
    (hcycle : u.cycle = 65) : spriteEvent u = u.evaluateSprites u.scanline := by
  simp only [spriteEvent, Ppu.visible, hr, hline, hcycle, decide_true, Bool.and_self, if_true]

theorem spriteEvent_of_not_evaluated {u : Ppu} (h : ¬ ((0 ≤ u.scanline ∧ u.scanline ≤ 239) ∧ u.cycle = 65)) :
    spriteEvent u = u := by
  refine if_neg fun hevaluated => h ?_
  simp only [Ppu.visible, Bool.and_eq_true, decide_eq_true_eq] at hevaluated
  obtain ⟨⟨hline, -⟩, hcycle⟩ := hevaluated
  exact ⟨hline, hcycle⟩

/-- Sprite evaluation looks at OAM and the sprite size alone. -/
theorem evaluateSprites_congr {u u' : Ppu} (line : Int) (hoam : u'.oam = u.oam) (hctrl : u'.ctrl = u.ctrl)
    (hoverflow : u'.spriteOverflow = u.spriteOverflow) :
    (u'.evaluateSprites line).secondary = (u.evaluateSprites line).secondary ∧
    (u'.evaluateSprites line).spriteOverflow = (u.evaluateSprites line).spriteOverflow := by
  have hfound : u'.spritesInRange line = u.spritesInRange line := by
    simp only [Ppu.spritesInRange, Ppu.spriteHeight, hoam, hctrl]
  have hentry : u'.spriteEntry = u.spriteEntry := funext fun i => by simp only [Ppu.spriteEntry, hoam]
  simp only [Ppu.evaluateSprites, hfound, hentry, hoverflow, and_self]

section
variable {u : Ppu}

theorem scrollEvents_of_not_evaluated (h : ¬ ((0 ≤ u.scanline ∧ u.scanline ≤ 239) ∧ u.cycle = 65)) :
    u.scrollEvents.secondary = u.secondary ∧ u.scrollEvents.spriteOverflow = u.spriteOverflow := by
  have hsame : spriteEvent (yEvent (coarseXEvent u)) = yEvent (coarseXEvent u) :=
    spriteEvent_of_not_evaluated (by simpa using h)
  simp [Ppu.scrollEvents, hsame]

theorem scrollEvents_of_evaluated (hr : u.rendering = true) (hline : 0 ≤ u.scanline ∧ u.scanline ≤ 239)
    (hcycle : u.cycle = 65) : u.scrollEvents.secondary = (u.evaluateSprites u.scanline).secondary ∧
    u.scrollEvents.spriteOverflow = (u.evaluateSprites u.scanline).spriteOverflow := by
  have heval : spriteEvent (yEvent (coarseXEvent u)) = (yEvent (coarseXEvent u)).evaluateSprites u.scanline := by
    rw [spriteEvent_of_evaluated (by simpa using hr) (by simpa using hline) (by simpa using hcycle), yEvent_scanline,
      coarseXEvent_scanline]
  obtain ⟨hsecondary, hoverflow⟩ := evaluateSprites_congr (u := u) (u' := yEvent (coarseXEvent u)) u.scanline
    (by simp) (by simp) (by simp)
  simp [Ppu.scrollEvents, heval, hsecondary, hoverflow]

end

/-! Events 7 and 8, vblank and the NMI (60 R234, R264). -/

theorem vblankStartEvent_ppu_nmiOut (s : State) : (vblankStartEvent s).ppu.nmiOut =
    if s.ppu.scanline = 241 ∧ s.ppu.cycle = 1 then s.ppu.ctrl.getLsbD 7 else s.ppu.nmiOut := by
  simp only [vblankStartEvent, ← Bool.decide_and, decide_eq_true_eq]
  split <;> rfl

theorem vblankStartEvent_nmiPending (s : State) : (vblankStartEvent s).nmiPending =
    if s.ppu.scanline = 241 ∧ s.ppu.cycle = 1 then s.nmiPending || (s.ppu.ctrl.getLsbD 7 && !s.ppu.nmiOut)
    else s.nmiPending := by
  simp only [vblankStartEvent, ← Bool.decide_and, decide_eq_true_eq]
  split <;> rfl

section
variable {s : State}

theorem vblankEndEvent_of_end (h : s.ppu.scanline = -1 ∧ s.ppu.cycle = 1) : vblankEndEvent s =
    s.setPpu { s.ppu with vblank := false, sprite0Hit := false, spriteOverflow := false, nmiOut := false } := by
  simp only [vblankEndEvent, h, decide_true, Bool.and_self, if_true]
  exact Claims.updateNmiOut_of_not_vblank rfl

theorem vblankEndEvent_of_not_end (h : ¬ (s.ppu.scanline = -1 ∧ s.ppu.cycle = 1)) : vblankEndEvent s = s := by
  refine if_neg fun hend => h ?_
  simpa only [Bool.and_eq_true, decide_eq_true_eq] using hend

end

/-! The whole cycle. -/

/-- The state after events 1 to 6 of a cycle. -/
def beforeVblank (s : State) : State :=
  (pixelEvent s).setPpu (pixelEvent s).ppu.scrollEvents

theorem ppuStep_eq (s : State) : ppuStep s = (vblankEndEvent (vblankStartEvent (beforeVblank s))).setPpu
    (vblankEndEvent (vblankStartEvent (beforeVblank s))).ppu.openBusTick.advance := rfl

@[simp] theorem beforeVblank_scanline (s : State) : (beforeVblank s).ppu.scanline = s.ppu.scanline := by
  simp [beforeVblank]

@[simp] theorem beforeVblank_cycle (s : State) : (beforeVblank s).ppu.cycle = s.ppu.cycle := by
  simp [beforeVblank]

theorem ppuStep_ppu_frame (s : State) : (ppuStep s).ppu.frame = (pixelEvent s).ppu.frame := by
  simp [ppuStep, ppuEvents]

theorem ppuStep_ppu_v (s : State) : (ppuStep s).ppu.v = (pixelEvent s).ppu.scrollEvents.v := by
  simp [ppuStep, ppuEvents]

theorem ppuStep_ppu_secondary (s : State) :
    (ppuStep s).ppu.secondary = (pixelEvent s).ppu.scrollEvents.secondary := by
  simp [ppuStep, ppuEvents]

theorem ppuStep_ppu_sprite0Hit (s : State) : (ppuStep s).ppu.sprite0Hit =
    if s.ppu.scanline = -1 ∧ s.ppu.cycle = 1 then false else (pixelEvent s).ppu.sprite0Hit := by
  rw [ppuStep_eq]
  split
  case isTrue h => rw [vblankEndEvent_of_end (by simpa using h)]; simp
  case isFalse h => rw [vblankEndEvent_of_not_end (by simpa using h)]; simp [beforeVblank]

theorem ppuStep_ppu_spriteOverflow (s : State) : (ppuStep s).ppu.spriteOverflow =
    if s.ppu.scanline = -1 ∧ s.ppu.cycle = 1 then false
    else (pixelEvent s).ppu.scrollEvents.spriteOverflow := by
  rw [ppuStep_eq]
  split
  case isTrue h => rw [vblankEndEvent_of_end (by simpa using h)]; simp
  case isFalse h => rw [vblankEndEvent_of_not_end (by simpa using h)]; simp [beforeVblank]

theorem ppuStep_ppu_nmiOut (s : State) : (ppuStep s).ppu.nmiOut =
    if s.ppu.scanline = 241 ∧ s.ppu.cycle = 1 then s.ppu.ctrl.getLsbD 7
    else if s.ppu.scanline = -1 ∧ s.ppu.cycle = 1 then false else s.ppu.nmiOut := by
  rw [ppuStep_eq]
  by_cases h : s.ppu.scanline = -1 ∧ s.ppu.cycle = 1
  · rw [vblankEndEvent_of_end (by simpa using h), if_neg (by omega), if_pos h]
    simp
  · rw [vblankEndEvent_of_not_end (by simpa using h), if_neg h]
    simp [vblankStartEvent_ppu_nmiOut, beforeVblank]

theorem ppuStep_nmiPending (s : State) : (ppuStep s).nmiPending =
    if s.ppu.scanline = 241 ∧ s.ppu.cycle = 1 then s.nmiPending || (s.ppu.ctrl.getLsbD 7 && !s.ppu.nmiOut)
    else s.nmiPending := by
  have hend (u : State) : (vblankEndEvent u).nmiPending = u.nmiPending := by
    by_cases h : u.ppu.scanline = -1 ∧ u.ppu.cycle = 1
    · rw [vblankEndEvent_of_end h]; rfl
    · rw [vblankEndEvent_of_not_end h]
  rw [ppuStep_eq]
  simp [hend, vblankStartEvent_nmiPending, beforeVblank]

end Sys2Proof.Machine
end

section
/-! What PPU cycles leave alone (60 R264, R265, R271). -/

namespace Sys2Proof.Machine

/-- PPUs with equal fields are equal. -/
theorem Ppu.ext_fields {u w : Ppu} (hctrl : u.ctrl = w.ctrl) (hmask : u.mask = w.mask) (hvblank : u.vblank = w.vblank)
    (hhit : u.sprite0Hit = w.sprite0Hit) (hoverflow : u.spriteOverflow = w.spriteOverflow)
    (haddr : u.oamAddr = w.oamAddr) (hoam : u.oam = w.oam) (hsecondary : u.secondary = w.secondary) (hv : u.v = w.v)
    (ht : u.t = w.t) (hx : u.fineX = w.fineX) (hw : u.w = w.w) (hbuffer : u.readBuffer = w.readBuffer)
    (hob : u.ob = w.ob) (htimers : u.obTimers = w.obTimers) (hvram : u.vram = w.vram) (hpalette : u.palette = w.palette)
    (hline : u.scanline = w.scanline) (hcycle : u.cycle = w.cycle) (hdma : u.dmaActive = w.dmaActive)
    (hout : u.nmiOut = w.nmiOut) (hframe : u.frame = w.frame) : u = w := by
  cases u; cases w; simp_all

@[simp] theorem ppuSteps_ppu_rendering (n : Nat) (s : State) : (ppuSteps n s).ppu.rendering = s.ppu.rendering := by
  simp only [Ppu.rendering, ppuSteps_ppu_mask]

@[simp] theorem ppuStep_ppu_rendering (s : State) : (ppuStep s).ppu.rendering = s.ppu.rendering := by
  simp only [Ppu.rendering, ppuStep_ppu_mask]

/-- A PPU cycle ages the open-bus latch, and that is all it does to it. -/
theorem ppuStep_ppu_ob (s : State) : ∃ live : Byte, (ppuStep s).ppu.ob = s.ppu.ob &&& live := by
  have hevents : (ppuEvents s).ppu.ob = s.ppu.ob := by simp [ppuEvents]
  rw [ppuStep, setPpu_ppu, advance_ob, ← hevents]
  exact ⟨_, rfl⟩

/-- PPU cycles set no open-bus bit. -/
theorem ppuSteps_ppu_ob (n : Nat) (s : State) : (ppuSteps n s).ppu.ob &&& s.ppu.ob = (ppuSteps n s).ppu.ob := by
  refine ppuSteps_keeps (P := fun t => t.ppu.ob &&& s.ppu.ob = t.ppu.ob) (fun {t} ht => ?_) n (BitVec.and_self)
  obtain ⟨live, hlive⟩ := ppuStep_ppu_ob t
  rw [hlive, BitVec.and_assoc, BitVec.and_comm live, ← BitVec.and_assoc, ht]

/-- PPU cycles do not clear the NMI latch. -/
theorem ppuSteps_nmiPending_of_set (n : Nat) {s : State} (h : s.nmiPending = true) :
    (ppuSteps n s).nmiPending = true := by
  refine ppuSteps_keeps (P := fun t => t.nmiPending = true) (fun {t} ht => ?_) n h
  rw [ppuStep_nmiPending, ht, Bool.true_or, ite_self]

/-- With rendering off, PPU cycles move nothing of v, the secondary OAM and the frame (60 R265). -/
theorem ppuSteps_of_not_rendering (n : Nat) {s : State} (h : s.ppu.rendering = false) :
    (ppuSteps n s).ppu.v = s.ppu.v ∧ (ppuSteps n s).ppu.secondary = s.ppu.secondary ∧
    (ppuSteps n s).ppu.frame = s.ppu.frame := by
  induction n generalizing s with
  | zero => exact ⟨rfl, rfl, rfl⟩
  | succ n ih =>
    obtain ⟨hv, hsecondary, hframe⟩ := ih (s := ppuStep s) (by rw [ppuStep_ppu_rendering, h])
    rw [ppuSteps, hv, hsecondary, hframe, ppuStep_ppu_v, ppuStep_ppu_secondary, ppuStep_ppu_frame,
      pixelEvent_of_not_rendering h, scrollEvents_of_not_rendering h]
    exact ⟨rfl, rfl, rfl⟩

end Sys2Proof.Machine

open Sys2Proof Sys2Proof.Machine Sys2Proof.Claims

/-- Settles O48: every field outside the list is kept by each cycle, and what is left is kept or grows in one way. -/
theorem ppuStepsTouchOnlyThePpu : Obligations.PpuStepsTouchOnlyThePpu := by
  unfold Obligations.PpuStepsTouchOnlyThePpu
  intro n s
  refine ⟨ppuSteps n s, rfl, ?_, ?_, ?_, ppuSteps_ppu_ob n s, ppuSteps_nmiPending_of_set n,
    ppuSteps_of_not_rendering n⟩
  · simp only [registers, ppuSteps_a, ppuSteps_x, ppuSteps_y, ppuSteps_sp, ppuSteps_pc, ppuSteps_p]
  · simp only [kept, ppuSteps_fault, ppuSteps_totalCycles, ppuSteps_oamDmaStall, ppuSteps_irqIn, ppuSteps_stepNo]
  · refine State.ext_fields ?_ ?_ ?_ ?_ ?_ ?_ ?_ ?_ ?_ ?_ ?_ ?_ ?_ ?_ (Ppu.ext_fields ?_ ?_ ?_ ?_ ?_ ?_ ?_ ?_ ?_ ?_ ?_
      ?_ ?_ ?_ ?_ ?_ ?_ ?_ ?_ ?_ ?_ ?_) ?_ ?_ ?_ ?_ ?_ <;> simp
end

section
/-! Vblank and the NMI latch over a frame (60 R234, R263, R264; 70 R310). -/

namespace Sys2Proof.Machine

/-- One more PPU cycle, at the end of a run. -/
theorem ppuSteps_succ (n : Nat) (s : State) : ppuSteps (n + 1) s = ppuStep (ppuSteps n s) :=
  ppuSteps_add n 1 s

theorem inv_ppuSteps {s : State} (h : s.Inv) (n : Nat) : (ppuSteps n s).Inv :=
  ppuSteps_keeps (fun hs => inv_stepClosed.ppuStep hs) n h

/-- Where vblank starts is the 82,524th position of the frame, counted from 0 at (-1, 0). -/
theorem vblankStart_iff_position {u : Ppu} (h : u.Inv) : (u.scanline = 241 ∧ u.cycle = 1) ↔ u.position = 82523 := by
  have hlow := h.scanlineLow
  have hcycle := h.cycle
  unfold Ppu.position
  omega

theorem vblankEnd_iff_position {u : Ppu} (h : u.Inv) : (u.scanline = -1 ∧ u.cycle = 1) ↔ u.position = 1 := by
  have hlow := h.scanlineLow
  have hcycle := h.cycle
  unfold Ppu.position
  omega

theorem frameStart_iff_position {u : Ppu} (h : u.Inv) : (u.scanline = -1 ∧ u.cycle = 0) ↔ u.position = 0 := by
  have hlow := h.scanlineLow
  have hcycle := h.cycle
  unfold Ppu.position
  omega

section
variable {s : State} (hs : s.Inv)
include hs

/-- The NMI output is the vblank flag under NMI enable, so a rise at the start of vblank is one of vblank (60 R234). -/
theorem ppuStep_nmiPending_of_inv : (ppuStep s).nmiPending =
    if s.ppu.scanline = 241 ∧ s.ppu.cycle = 1 then s.nmiPending || (s.ppu.ctrl.getLsbD 7 && !s.ppu.vblank)
    else s.nmiPending := by
  rw [ppuStep_nmiPending, hs.ppu.nmiOut]
  cases s.ppu.ctrl.getLsbD 7
  · simp only [Bool.false_and]
  · rw [Bool.and_true]

section
variable (hposition : s.ppu.position = 0)
include hposition

theorem ppuSteps_position_of_frameStart (n : Nat) : (ppuSteps n s).ppu.position = n % 89342 := by
  rw [ppuSteps_ppu_position hs, hposition, Nat.zero_add]

/-- One more PPU cycle of a run from the frame's start, by its number. -/
theorem ppuSteps_succ_vblank (n : Nat) : (ppuSteps (n + 1) s).ppu.vblank =
    if n % 89342 = 82523 then true else if n % 89342 = 1 then false else (ppuSteps n s).ppu.vblank := by
  have hn := inv_ppuSteps hs n
  rw [ppuSteps_succ, ppuStep_ppu_vblank]
  simp only [vblankStart_iff_position hn.ppu, vblankEnd_iff_position hn.ppu,
    ppuSteps_position_of_frameStart hs hposition]

theorem ppuSteps_succ_nmiPending (n : Nat) : (ppuSteps (n + 1) s).nmiPending =
    if n % 89342 = 82523 then (ppuSteps n s).nmiPending || (s.ppu.ctrl.getLsbD 7 && !(ppuSteps n s).ppu.vblank)
    else (ppuSteps n s).nmiPending := by
  have hn := inv_ppuSteps hs n
  rw [ppuSteps_succ, ppuStep_nmiPending_of_inv hn, ppuSteps_ppu_ctrl]
  simp only [vblankStart_iff_position hn.ppu, ppuSteps_position_of_frameStart hs hposition]

variable (hvblank : s.ppu.vblank = false)
include hvblank

/-- Vblank is set by the 82,524th cycle of the frame, and stays to the second cycle of the next. -/
theorem ppuSteps_vblank_of_frameStart {n : Nat} (hn : n ≤ 89343) :
    (ppuSteps n s).ppu.vblank = decide (82524 ≤ n) := by
  induction n with
  | zero => exact hvblank
  | succ n ih =>
    rw [ppuSteps_succ_vblank hs hposition, ih (by omega)]
    by_cases hstart : n = 82523
    · subst hstart
      rfl
    · rw [if_neg (by omega)]
      by_cases hend : n = 1
      · subst hend
        rfl
      · rw [if_neg (by omega), decide_eq_decide]
        omega

theorem ppuSteps_nmiPending_of_frameStart {n : Nat} (hn : n ≤ 89344) :
    (ppuSteps n s).nmiPending = (s.nmiPending || (s.ppu.ctrl.getLsbD 7 && decide (82524 ≤ n))) := by
  induction n with
  | zero => simp [ppuSteps]
  | succ n ih =>
    rw [ppuSteps_succ_nmiPending hs hposition, ih (by omega), ppuSteps_vblank_of_frameStart hs hposition hvblank (by omega)]
    by_cases hstart : n = 82523
    · subst hstart
      simp
    · have hsame : decide (82524 ≤ n + 1) = decide (82524 ≤ n) := by
        rw [decide_eq_decide]
        omega
      rw [if_neg (by omega), hsame]

end

end

end Sys2Proof.Machine

open Sys2Proof Sys2Proof.Machine Sys2Proof.Claims

/-- Settles O47: the cycle's events by where the PPU is, then the frame by induction on its cycles, the invariant
turning a place in the frame into the number of cycles since its start. -/
theorem vblankIsSetOncePerFrame : Obligations.VblankIsSetOncePerFrame := by
  unfold Obligations.VblankIsSetOncePerFrame
  intro s hs
  refine ⟨fun hline hcycle => ?start, fun hline hcycle => ?finish, fun hstart hend => ?between, fun hend hoff => ?off,
    fun hline hcycle hvblank => ?frame⟩
  case start =>
    rw [ppuStep_ppu_vblank, ppuStep_ppu_nmiOut, ppuStep_nmiPending_of_inv hs]
    simp only [hline, hcycle, and_self, if_true]
  case finish =>
    rw [ppuStep_ppu_vblank, ppuStep_ppu_sprite0Hit, ppuStep_ppu_spriteOverflow, ppuStep_ppu_nmiOut, ppuStep_nmiPending]
    simp [hline, hcycle]
  case between =>
    rw [ppuStep_ppu_vblank, ppuStep_ppu_nmiOut, ppuStep_nmiPending]
    simp only [hstart, hend, if_false, and_self]
  case off =>
    rw [ppuStep_ppu_sprite0Hit, ppuStep_ppu_spriteOverflow, if_neg hend, if_neg hend, pixelEvent_of_not_rendering hoff,
      scrollEvents_of_not_rendering hoff]
    exact ⟨rfl, rfl⟩
  case frame =>
    have hposition : s.ppu.position = 0 := (frameStart_iff_position hs.ppu).mp ⟨hline, hcycle⟩
    refine ⟨fun n => ppuSteps_vblank_of_frameStart hs hposition hvblank,
      fun n => ppuSteps_nmiPending_of_frameStart hs hposition hvblank, ?_, ?_⟩
    · rw [ppuSteps_succ_vblank hs hposition]
      rfl
    · exact (frameStart_iff_position (inv_ppuSteps hs _).ppu).mpr (ppuSteps_position_of_frameStart hs hposition _)
end

section
/-! The two halves of a loopy register that the copies exchange (60 R260, R261, R264). -/

namespace Sys2Proof.Claims

open Sys2Proof.Machine

theorem and_2_of_lt : ∀ n < 4, n &&& 2 = n / 2 * 2 := by decide

theorem loopy_and_0x7BE0 {x y n f : Nat} (hx : x < 32) (hy : y < 32) (hn : n < 4) (hf : f < 8) :
    loopy x y n f &&& 0x7BE0 = loopy 0 y (n / 2 * 2) f := by
  rw [show (0x7BE0 : BitVec 15) = loopy 0 31 2 7 from rfl]
  simp (disch := omega) only [loopy_and_loopy, and_31_of_lt, and_2_of_lt, and_7_of_lt, Nat.and_zero]

/-- incrementHorizontal moves coarse X and the horizontal nametable alone. -/
theorem incrementHorizontal_and_0x7BE0 (v : BitVec 15) : incrementHorizontal v &&& 0x7BE0 = v &&& 0x7BE0 := by
  have hlt := v.isLt
  rw [eq_loopy v, incrementHorizontal_loopy (by omega) (by omega) (by omega) (by omega)]
  split
  · simp (disch := omega) only [loopy_and_0x7BE0]
    congr 1
    omega
  · simp (disch := omega) only [loopy_and_0x7BE0]

/-- incrementVertical neither reads nor moves coarse X and the horizontal nametable. -/
theorem incrementVertical_and_0x7BE0 (v : BitVec 15) :
    incrementVertical v &&& 0x7BE0 = incrementVertical (v &&& 0x7BE0) &&& 0x7BE0 := by
  have hlt := v.isLt
  rw [eq_loopy v, loopy_and_0x7BE0 (by omega) (by omega) (by omega) (by omega),
    incrementVertical_loopy (by omega) (by omega) (by omega) (by omega),
    incrementVertical_loopy (by omega) (by omega) (by omega) (by omega)]
  split_ifs <;> simp (disch := omega) only [loopy_and_0x7BE0] <;> congr 1 <;> omega

theorem copyHorizontal_and_0x041F (v t : BitVec 15) : ((v &&& 0x7BE0) ||| (t &&& 0x041F)) &&& 0x041F = t &&& 0x041F := by
  rw [BitVec.and_or_distrib_right, BitVec.and_assoc, BitVec.and_assoc, BitVec.and_self,
    show (0x7BE0 &&& 0x041F : BitVec 15) = 0#15 from rfl, BitVec.and_zero, BitVec.zero_or]

/-- The two masks make the whole register. -/
theorem or_and_0x041F_and_0x7BE0 (t : BitVec 15) : (t &&& 0x041F) ||| (t &&& 0x7BE0) = t := by
  rw [← BitVec.and_or_distrib_left, show (0x041F ||| 0x7BE0 : BitVec 15) = BitVec.allOnes 15 from rfl, BitVec.and_allOnes]

end Sys2Proof.Claims
end

section
/-! A pixel in the frame buffer (60 R270). -/

namespace Sys2Proof.Machine

theorem FrameBuffer.le_of_mem {f : FrameBuffer} {lo k : Nat} {c : BitVec 32} (h : f.wfFrom lo = true) (hmem : (k, c) ∈ f) :
    lo ≤ k := by
  induction f generalizing lo with
  | nil => exact absurd hmem List.not_mem_nil
  | cons e f ih =>
    obtain ⟨j, d⟩ := e
    simp only [FrameBuffer.wfFrom, Bool.and_eq_true, decide_eq_true_eq] at h
    obtain ⟨⟨hlo, -⟩, hf⟩ := h
    rcases List.mem_cons.mp hmem with heq | htail
    · obtain ⟨rfl, -⟩ := Prod.mk.inj heq
      exact hlo
    · have := ih hf htail
      omega

/-- A pixel put before a list without its key. -/
theorem FrameBuffer.mem_cons_of_new {f : FrameBuffer} {k : Nat} (hnew : ∀ a, (k, a) ∉ f) (j : Nat) (c d : BitVec 32) :
    (j, d) ∈ (k, c) :: f ↔ if j = k then d = c else (j, d) ∈ f := by
  rw [List.mem_cons, Prod.mk.injEq]
  by_cases hj : j = k
  · subst hj
    simp [hnew]
  · simp [hj]

/-- A set key holds the one colour set; the other keys hold what they held. -/
theorem FrameBuffer.mem_set {f : FrameBuffer} {lo : Nat} (h : f.wfFrom lo = true) (j k : Nat) (c d : BitVec 32) :
    (j, d) ∈ f.set k c ↔ if j = k then d = c else (j, d) ∈ f := by
  induction f generalizing lo with
  | nil => exact FrameBuffer.mem_cons_of_new (fun _ => List.not_mem_nil) j c d
  | cons e f ih =>
    obtain ⟨i, b⟩ := e
    simp only [FrameBuffer.wfFrom, Bool.and_eq_true, decide_eq_true_eq] at h
    obtain ⟨-, hf⟩ := h
    have hnew {k : Nat} (hk : k ≤ i) (a : BitVec 32) : (k, a) ∉ f := fun hmem => by
      have := FrameBuffer.le_of_mem hf hmem
      omega
    unfold FrameBuffer.set
    by_cases hlt : k < i
    · rw [if_pos hlt]
      refine FrameBuffer.mem_cons_of_new (fun a hmem => ?_) j c d
      rcases List.mem_cons.mp hmem with heq | htail
      · obtain ⟨rfl, -⟩ := Prod.mk.inj heq
        exact lt_irrefl _ hlt
      · exact hnew hlt.le a htail
    · rw [if_neg hlt]
      by_cases heq : k = i
      · subst heq
        rw [if_pos rfl, FrameBuffer.mem_cons_of_new (hnew le_rfl)]
        split
        case isTrue => rfl
        case isFalse hj => simp [hj]
      · rw [if_neg heq, List.mem_cons, ih hf, List.mem_cons, Prod.mk.injEq]
        split
        case isTrue hj => simp [hj, heq]
        case isFalse => rfl

end Sys2Proof.Machine
end

section
/-! A scanline with rendering on: what each of its cycles does, and what the line does (60 R264, R265, R270). -/

namespace Sys2Proof.Machine

/-- v after a cycle at this place with rendering on (60 R264). -/
def movedV (line : Int) (cycle : Nat) (v t : BitVec 15) : BitVec 15 :=
  if (0 ≤ line ∧ line ≤ 239) ∧ cycle = 256 then incrementVertical (incrementHorizontal v)
  else if (0 ≤ line ∧ line ≤ 239) ∧ cycle < 256 ∧ cycle % 8 = 0 ∧ cycle ≠ 0 then incrementHorizontal v
  else if line ≤ 239 ∧ cycle = 257 then (v &&& 0x7BE0) ||| (t &&& 0x041F)
  else if line = -1 ∧ 280 ≤ cycle ∧ cycle ≤ 304 then (v &&& 0x041F) ||| (t &&& 0x7BE0)
  else v

/-- Before the increment at cycle 256 a visible line moves coarse X and the horizontal nametable alone. -/
theorem movedV_and_0x7BE0 {line : Int} {cycle : Nat} (hline : 0 ≤ line) (hcycle : cycle < 256) (v t : BitVec 15) :
    movedV line cycle v t &&& 0x7BE0 = v &&& 0x7BE0 := by
  unfold movedV
  rw [if_neg (by omega)]
  split
  case isTrue => exact Claims.incrementHorizontal_and_0x7BE0 v
  case isFalse => rw [if_neg (by omega), if_neg (by omega)]

theorem movedV_of_copyHorizontal {line : Int} (hline : line ≤ 239) (v t : BitVec 15) :
    movedV line 257 v t = (v &&& 0x7BE0) ||| (t &&& 0x041F) := by
  rw [movedV, if_neg (by omega), if_neg (by omega), if_pos ⟨hline, rfl⟩]

theorem movedV_of_copyVertical {cycle : Nat} (hfirst : 280 ≤ cycle) (hlast : cycle ≤ 304) (v t : BitVec 15) :
    movedV (-1) cycle v t = (v &&& 0x041F) ||| (t &&& 0x7BE0) := by
  rw [movedV, if_neg (by omega), if_neg (by omega), if_neg (by omega), if_pos ⟨rfl, hfirst, hlast⟩]

/-- After the horizontal copy v stays, except for the vertical copies of the pre-render line. -/
theorem movedV_of_after {line : Int} {cycle : Nat} (hafter : 257 < cycle)
    (hcopy : ¬ (line = -1 ∧ 280 ≤ cycle ∧ cycle ≤ 304)) (v t : BitVec 15) : movedV line cycle v t = v := by
  rw [movedV, if_neg (by omega), if_neg (by omega), if_neg (by omega), if_neg hcopy]

theorem movedV_of_below {line : Int} (hline : 239 < line) (cycle : Nat) (v t : BitVec 15) :
    movedV line cycle v t = v := by
  rw [movedV, if_neg (by omega), if_neg (by omega), if_neg (by omega), if_neg (by omega)]

theorem ppuStep_ppu_v_of_rendering {s : State} (hs : s.Inv) (hr : s.ppu.rendering = true) :
    (ppuStep s).ppu.v = movedV s.ppu.scanline s.ppu.cycle s.ppu.v s.ppu.t := by
  have hr' : (pixelEvent s).ppu.rendering = true := by simpa [Ppu.rendering] using hr
  rw [ppuStep_ppu_v, scrollEvents_v hr' (by simpa using hs.ppu.scanlineLow)]
  simp only [pixelEvent_ppu_scanline, pixelEvent_ppu_cycle, pixelEvent_ppu_v, pixelEvent_ppu_t]
  rfl

/-- Away from cycle 65 of the visible lines, secondary OAM stays, and the overflow flag with it but for its clear. -/
theorem ppuStep_of_not_evaluated {s : State}
    (h : ¬ ((0 ≤ s.ppu.scanline ∧ s.ppu.scanline ≤ 239) ∧ s.ppu.cycle = 65)) :
    (ppuStep s).ppu.secondary = s.ppu.secondary ∧
    (¬ (s.ppu.scanline = -1 ∧ s.ppu.cycle = 1) → (ppuStep s).ppu.spriteOverflow = s.ppu.spriteOverflow) := by
  obtain ⟨hsecondary, hoverflow⟩ := scrollEvents_of_not_evaluated (u := (pixelEvent s).ppu) (by simpa using h)
  refine ⟨by rw [ppuStep_ppu_secondary, hsecondary, pixelEvent_ppu_secondary], fun hclear => ?_⟩
  rw [ppuStep_ppu_spriteOverflow, if_neg hclear, hoverflow, pixelEvent_ppu_spriteOverflow]

theorem ppuStep_of_evaluated {s : State} (hr : s.ppu.rendering = true)
    (hline : 0 ≤ s.ppu.scanline ∧ s.ppu.scanline ≤ 239) (hcycle : s.ppu.cycle = 65) :
    (ppuStep s).ppu.secondary = (s.ppu.evaluateSprites s.ppu.scanline).secondary ∧
    (ppuStep s).ppu.spriteOverflow = (s.ppu.evaluateSprites s.ppu.scanline).spriteOverflow := by
  obtain ⟨hsecondary, hoverflow⟩ := scrollEvents_of_evaluated (u := (pixelEvent s).ppu)
    (by simpa [Ppu.rendering] using hr) (by simpa using hline) (by simpa using hcycle)
  obtain ⟨hsecondary', hoverflow'⟩ := evaluateSprites_congr (u := s.ppu) (u' := (pixelEvent s).ppu) s.ppu.scanline
    (by simp) (by simp) (by simp)
  rw [pixelEvent_ppu_scanline] at hsecondary hoverflow
  rw [ppuStep_ppu_secondary, ppuStep_ppu_spriteOverflow, if_neg (by omega)]
  exact ⟨hsecondary.trans hsecondary', hoverflow.trans hoverflow'⟩

theorem ppuStep_of_drawn {s : State} (hr : s.ppu.rendering = true)
    (hline : 0 ≤ s.ppu.scanline ∧ s.ppu.scanline ≤ 239) (hcycle : 1 ≤ s.ppu.cycle ∧ s.ppu.cycle ≤ 256) :
    (ppuStep s).ppu.frame = (renderPixel (s.ppu.cycle - 1) s.ppu.scanline.toNat s).ppu.frame ∧
    (ppuStep s).ppu.sprite0Hit = (renderPixel (s.ppu.cycle - 1) s.ppu.scanline.toNat s).ppu.sprite0Hit := by
  rw [ppuStep_ppu_frame, ppuStep_ppu_sprite0Hit, if_neg (by omega), pixelEvent_of_drawn hr hline hcycle]
  exact ⟨rfl, rfl⟩

/-- A drawn pixel gives its key one colour, and leaves the other keys. -/
theorem renderPixel_frame {s : State} (hs : s.ppu.Inv) (px line : Nat) : ∃ colour, ∀ key c,
    (key, c) ∈ (renderPixel px line s).ppu.frame ↔
      if key = frameKey px line then c = colour else (key, c) ∈ s.ppu.frame :=
  ⟨_, fun key c => FrameBuffer.mem_set hs.frame key (frameKey px line) _ c⟩

theorem ppuStep_of_not_drawn {s : State}
    (h : ¬ ((0 ≤ s.ppu.scanline ∧ s.ppu.scanline ≤ 239) ∧ 1 ≤ s.ppu.cycle ∧ s.ppu.cycle ≤ 256)) :
    (ppuStep s).ppu.frame = s.ppu.frame ∧
    (¬ (s.ppu.scanline = -1 ∧ s.ppu.cycle = 1) → (ppuStep s).ppu.sprite0Hit = s.ppu.sprite0Hit) := by
  rw [ppuStep_ppu_frame, ppuStep_ppu_sprite0Hit, pixelEvent_of_not_drawn h]
  exact ⟨rfl, fun hclear => if_neg hclear⟩

/-! A line from its cycle 0 on. -/

/-- What each cycle of a stretch of a run keeps, the stretch keeps. -/
theorem ppuSteps_keeps_between {P : State → Prop} {s : State} {i j : Nat} (hij : i ≤ j)
    (hstep : ∀ k, i ≤ k → k < j → P (ppuSteps k s) → P (ppuStep (ppuSteps k s))) (hi : P (ppuSteps i s)) :
    P (ppuSteps j s) := by
  induction j, hij using Nat.le_induction with
  | base => exact hi
  | succ j hij ih =>
    rw [ppuSteps_succ]
    exact hstep j hij (Nat.lt_succ_self j) (ih fun k hik hkj => hstep k hik (Nat.lt_succ_of_lt hkj))

/-- The PPU at the start of a line, with rendering on. -/
structure LineStart (s : State) : Prop where
  inv : s.Inv
  rendering : s.ppu.rendering = true
  cycle : s.ppu.cycle = 0

/-- Within the line, the number of PPU cycles since its start is the cycle. -/
theorem ppuSteps_place {s : State} (h : s.ppu.cycle = 0) {k : Nat} (hk : k ≤ 340) :
    (ppuSteps k s).ppu.cycle = k ∧ (ppuSteps k s).ppu.scanline = s.ppu.scanline := by
  induction k with
  | zero => exact ⟨h, rfl⟩
  | succ k ih =>
    obtain ⟨hcycle, hline⟩ := ih (by omega)
    rw [ppuSteps_succ, ppuStep_ppu_cycle, ppuStep_ppu_scanline, hcycle, hline, if_neg (by omega), if_neg (by omega)]
    exact ⟨rfl, rfl⟩

/-- The 341st cycle starts the next line (60 R263). -/
theorem ppuSteps_nextLine {s : State} (hs : s.Inv) (h : s.ppu.cycle = 0) : (ppuSteps 341 s).ppu.cycle = 0 ∧
    (ppuSteps 341 s).ppu.scanline = if s.ppu.scanline = 260 then -1 else s.ppu.scanline + 1 := by
  obtain ⟨hcycle, hline⟩ := ppuSteps_place h le_rfl
  have hhigh := hs.ppu.scanlineHigh
  have hlast : 260 < s.ppu.scanline + 1 ↔ s.ppu.scanline = 260 := by omega
  rw [ppuSteps_succ, ppuStep_ppu_cycle, ppuStep_ppu_scanline, hcycle, hline]
  simp only [hlast]
  exact ⟨if_pos (by decide), if_pos (by decide)⟩

section
variable {s : State} (h : LineStart s)
include h

theorem LineStart.ppuStep_ppu_v {k : Nat} (hk : k ≤ 340) : (ppuStep (ppuSteps k s)).ppu.v =
    movedV s.ppu.scanline k (ppuSteps k s).ppu.v s.ppu.t := by
  obtain ⟨hcycle, hline⟩ := ppuSteps_place h.cycle hk
  have hr : (ppuSteps k s).ppu.rendering = true := by rw [ppuSteps_ppu_rendering, h.rendering]
  rw [ppuStep_ppu_v_of_rendering (inv_ppuSteps h.inv k) hr, hcycle, hline, ppuSteps_ppu_t]

/-! The pre-render line. -/

/-- The pre-render line copies t to v: the horizontal half at cycle 257, the vertical half from cycle 280 on. -/
theorem LineStart.v_of_preRender (hline : s.ppu.scanline = -1) : (ppuSteps 341 s).ppu.v = s.ppu.t := by
  have hmoved {k : Nat} (hk : k ≤ 340) := h.ppuStep_ppu_v hk
  rw [hline] at hmoved
  have hhorizontal : (ppuSteps 280 s).ppu.v &&& 0x041F = s.ppu.t &&& 0x041F := by
    refine ppuSteps_keeps_between (P := fun u => u.ppu.v &&& 0x041F = s.ppu.t &&& 0x041F) (i := 258) (by omega)
      (fun k hfirst hlast hk => ?_) ?_
    · rw [hmoved (by omega), movedV_of_after (by omega) (by omega), hk]
    · rw [ppuSteps_succ, hmoved (by omega), movedV_of_copyHorizontal (by omega), Claims.copyHorizontal_and_0x041F]
  refine ppuSteps_keeps_between (P := fun u => u.ppu.v = s.ppu.t) (i := 281) (by omega) (fun k hfirst hlast hk => ?_) ?_
  · rw [hmoved (by omega), hk]
    by_cases hcopy : k ≤ 304
    · rw [movedV_of_copyVertical (by omega) hcopy, Claims.or_and_0x041F_and_0x7BE0]
    · rw [movedV_of_after (by omega) (by omega)]
  · rw [ppuSteps_succ, hmoved (by omega), movedV_of_copyVertical le_rfl (by omega), hhorizontal,
      Claims.or_and_0x041F_and_0x7BE0]

/-- A line that shows nothing draws nothing and evaluates no sprites. -/
theorem LineStart.frame_of_not_shown (hline : ¬ (0 ≤ s.ppu.scanline ∧ s.ppu.scanline ≤ 239)) :
    (ppuSteps 341 s).ppu.frame = s.ppu.frame ∧ (ppuSteps 341 s).ppu.secondary = s.ppu.secondary := by
  refine ppuSteps_keeps_between (P := fun u => u.ppu.frame = s.ppu.frame ∧ u.ppu.secondary = s.ppu.secondary)
    (Nat.zero_le 341) (fun k _ hk ⟨hframe, hsecondary⟩ => ?_) ⟨rfl, rfl⟩
  obtain ⟨-, hplace⟩ := ppuSteps_place h.cycle (Nat.le_of_lt_succ hk)
  rw [← hplace] at hline
  obtain ⟨hframe', -⟩ := ppuStep_of_not_drawn fun hdrawn => hline hdrawn.1
  obtain ⟨hsecondary', -⟩ := ppuStep_of_not_evaluated fun hevaluated => hline hevaluated.1
  exact ⟨hframe'.trans hframe, hsecondary'.trans hsecondary⟩

theorem LineStart.v_of_below (hline : 239 < s.ppu.scanline) : (ppuSteps 341 s).ppu.v = s.ppu.v := by
  refine ppuSteps_keeps_between (P := fun u => u.ppu.v = s.ppu.v) (Nat.zero_le 341) (fun k _ hk hv => ?_) rfl
  rw [h.ppuStep_ppu_v (Nat.le_of_lt_succ hk), movedV_of_below hline, hv]

/-! A visible line. -/

section
variable (hshown : 0 ≤ s.ppu.scanline ∧ s.ppu.scanline ≤ 239)
include hshown

/-- A visible line counts Y once, at cycle 256, and takes t's horizontal half at cycle 257. -/
theorem LineStart.v_of_shown : (ppuSteps 341 s).ppu.v =
    (incrementVertical s.ppu.v &&& 0x7BE0) ||| (s.ppu.t &&& 0x041F) := by
  have hmoved {k : Nat} (hk : k ≤ 340) := h.ppuStep_ppu_v hk
  have hbefore : (ppuSteps 256 s).ppu.v &&& 0x7BE0 = s.ppu.v &&& 0x7BE0 := by
    refine ppuSteps_keeps_between (P := fun u => u.ppu.v &&& 0x7BE0 = s.ppu.v &&& 0x7BE0) (Nat.zero_le 256)
      (fun k _ hlast hk => ?_) rfl
    rw [hmoved (by omega), movedV_and_0x7BE0 hshown.1 hlast, hk]
  have hvertical : (ppuSteps 257 s).ppu.v &&& 0x7BE0 = incrementVertical s.ppu.v &&& 0x7BE0 := by
    rw [ppuSteps_succ, hmoved (by omega), movedV, if_pos ⟨hshown, rfl⟩, Claims.incrementVertical_and_0x7BE0,
      Claims.incrementHorizontal_and_0x7BE0, hbefore, ← Claims.incrementVertical_and_0x7BE0]
  refine ppuSteps_keeps_between
    (P := fun u => u.ppu.v = (incrementVertical s.ppu.v &&& 0x7BE0) ||| (s.ppu.t &&& 0x041F)) (i := 258) (by omega)
    (fun k hfirst hlast hk => ?_) ?_
  · rw [hmoved (by omega), movedV_of_after (by omega) (by omega), hk]
  · rw [ppuSteps_succ, hmoved (by omega), movedV_of_copyHorizontal hshown.2, hvertical]

/-- Sprites are evaluated once in a visible line, from the OAM and the overflow flag of its start. -/
theorem LineStart.sprites_of_shown :
    (ppuSteps 341 s).ppu.secondary = (s.ppu.evaluateSprites s.ppu.scanline).secondary ∧
    (ppuSteps 341 s).ppu.spriteOverflow = (s.ppu.evaluateSprites s.ppu.scanline).spriteOverflow := by
  have hkept {k : Nat} (hk : k ≤ 340) (hne : k ≠ 65) :
      (ppuStep (ppuSteps k s)).ppu.secondary = (ppuSteps k s).ppu.secondary ∧
      (ppuStep (ppuSteps k s)).ppu.spriteOverflow = (ppuSteps k s).ppu.spriteOverflow := by
    obtain ⟨hcycle, hline⟩ := ppuSteps_place h.cycle hk
    obtain ⟨hsecondary, hoverflow⟩ := ppuStep_of_not_evaluated (s := ppuSteps k s) (by omega)
    exact ⟨hsecondary, hoverflow (by omega)⟩
  have hbefore : (ppuSteps 65 s).ppu.spriteOverflow = s.ppu.spriteOverflow := by
    refine ppuSteps_keeps_between (P := fun u => u.ppu.spriteOverflow = s.ppu.spriteOverflow) (Nat.zero_le 65)
      (fun k _ hlast hk => ?_) rfl
    rw [(hkept (by omega) (by omega)).2, hk]
  refine ppuSteps_keeps_between (P := fun u =>
    u.ppu.secondary = (s.ppu.evaluateSprites s.ppu.scanline).secondary ∧
    u.ppu.spriteOverflow = (s.ppu.evaluateSprites s.ppu.scanline).spriteOverflow) (i := 66) (by omega)
    (fun k hfirst hlast hk => ?_) ?_
  · obtain ⟨hsecondary, hoverflow⟩ := hkept (k := k) (by omega) (by omega)
    rwa [hsecondary, hoverflow]
  · obtain ⟨hcycle, hline⟩ := ppuSteps_place h.cycle (k := 65) (by omega)
    obtain ⟨hsecondary, hoverflow⟩ := ppuStep_of_evaluated (s := ppuSteps 65 s)
      (by rw [ppuSteps_ppu_rendering, h.rendering]) (by rwa [hline]) hcycle
    rw [ppuSteps_succ, hsecondary, hoverflow, hline]
    exact evaluateSprites_congr _ (by simp) (by simp) hbefore

/-- A cycle of a visible line leaves every pixel but the one it draws. -/
theorem LineStart.frame_of_other {k key : Nat} (hk : k ≤ 340)
    (hkey : ¬ (1 ≤ k ∧ k ≤ 256 ∧ key = frameKey (k - 1) s.ppu.scanline.toNat)) (c : BitVec 32) :
    (key, c) ∈ (ppuStep (ppuSteps k s)).ppu.frame ↔ (key, c) ∈ (ppuSteps k s).ppu.frame := by
  obtain ⟨hcycle, hline⟩ := ppuSteps_place h.cycle hk
  by_cases hdrawn : 1 ≤ k ∧ k ≤ 256
  · obtain ⟨hframe, -⟩ := ppuStep_of_drawn (s := ppuSteps k s) (by rw [ppuSteps_ppu_rendering, h.rendering])
      (by rwa [hline]) (by rwa [hcycle])
    obtain ⟨_, hmem⟩ := renderPixel_frame (inv_ppuSteps h.inv k).ppu (k - 1) s.ppu.scanline.toNat
    rw [hframe, hcycle, hline, hmem, if_neg fun heq => hkey ⟨hdrawn.1, hdrawn.2, heq⟩]
  · obtain ⟨hframe, -⟩ := ppuStep_of_not_drawn (s := ppuSteps k s) (by rw [hcycle]; exact fun hall => hdrawn hall.2)
    rw [hframe]

/-- Each pixel of a visible line is the one its own cycle draws. -/
theorem LineStart.pixel_of_shown {px : Nat} (hpx : px < 256) : ∃ colour, ∀ c,
    ((frameKey px s.ppu.scanline.toNat, c) ∈ (ppuSteps 341 s).ppu.frame ↔ c = colour) ∧
    ((frameKey px s.ppu.scanline.toNat, c) ∈
      (renderPixel px s.ppu.scanline.toNat (ppuSteps (px + 1) s)).ppu.frame ↔ c = colour) := by
  obtain ⟨hcycle, hline⟩ := ppuSteps_place h.cycle (k := px + 1) (by omega)
  obtain ⟨hframe, -⟩ := ppuStep_of_drawn (s := ppuSteps (px + 1) s) (by rw [ppuSteps_ppu_rendering, h.rendering])
    (by rwa [hline]) (by omega)
  rw [hcycle, hline, Nat.add_sub_cancel] at hframe
  obtain ⟨colour, hdrawn⟩ := renderPixel_frame (inv_ppuSteps h.inv (px + 1)).ppu px s.ppu.scanline.toNat
  have hpixel (c : BitVec 32) := (hdrawn (frameKey px s.ppu.scanline.toNat) c).trans (iff_of_eq (if_pos rfl))
  refine ⟨colour, fun c => ⟨?_, hpixel c⟩⟩
  refine ppuSteps_keeps_between (P := fun u => (frameKey px s.ppu.scanline.toNat, c) ∈ u.ppu.frame ↔ c = colour)
    (i := px + 2) (by omega) (fun k hfirst hlast hk => ?_) ?_
  · rw [h.frame_of_other hshown (by omega) (by unfold frameKey; omega), hk]
  · rw [ppuSteps_succ, hframe, hpixel]

/-- A visible line leaves the pixels of the others. -/
theorem LineStart.pixel_of_other_line {key : Nat} (hkey : key / 256 ≠ s.ppu.scanline.toNat) (c : BitVec 32) :
    (key, c) ∈ (ppuSteps 341 s).ppu.frame ↔ (key, c) ∈ s.ppu.frame := by
  refine ppuSteps_keeps_between (P := fun u => (key, c) ∈ u.ppu.frame ↔ (key, c) ∈ s.ppu.frame) (Nat.zero_le 341)
    (fun k _ hlast hk => ?_) Iff.rfl
  rw [h.frame_of_other hshown (by omega) (by unfold frameKey; omega), hk]

end

end

end Sys2Proof.Machine

open Sys2Proof Sys2Proof.Machine Sys2Proof.Claims

/-- Settles O50: the events of one cycle, then a line as a run of cycles whose number since its start is the cycle,
each stretch of it keeping what its cycles keep. -/
theorem renderingFollowsTheScanline : Obligations.RenderingFollowsTheScanline := by
  unfold Obligations.RenderingFollowsTheScanline
  intro s hs hr line shown u
  refine ⟨fun hshown hfirst hlast => ppuStep_of_drawn hr hshown ⟨hfirst, hlast⟩, ppuStep_of_not_drawn,
    ppuStep_of_evaluated hr, ppuStep_of_not_evaluated, ppuStep_ppu_v_of_rendering hs hr, fun hcycle => ?_⟩
  have h : LineStart s := ⟨hs, hr, hcycle⟩
  obtain ⟨hcycle', hline'⟩ := ppuSteps_nextLine hs hcycle
  refine ⟨ppuSteps 341 s, rfl, hcycle', hline', fun hpre => ?preRender, fun hshown => ?shown, fun hbelow => ?below⟩
  case preRender =>
    exact ⟨h.v_of_preRender hpre, h.frame_of_not_shown (by omega)⟩
  case shown =>
    exact ⟨h.v_of_shown hshown, fun px hpx => h.pixel_of_shown hshown hpx,
      fun key c hkey => h.pixel_of_other_line hshown hkey c, h.sprites_of_shown hshown⟩
  case below =>
    exact ⟨h.v_of_below hbelow, h.frame_of_not_shown (by omega)⟩
end

section
/-! An idle loop: a JMP to its own address that no interrupt leaves (70 R311, way 3). -/

namespace Sys2Proof.Machine

open Sys2Proof.Claims

/-- With the NMI disabled, PPU cycles do not set its latch (60 R234). -/
theorem ppuSteps_nmiPending_of_disabled (n : Nat) {s : State} (hnmi : s.nmiPending = false)
    (hctrl : s.ppu.ctrl.getLsbD 7 = false) : (ppuSteps n s).nmiPending = false := by
  induction n with
  | zero => exact hnmi
  | succ n ih =>
    rw [ppuSteps_succ, ppuStep_nmiPending, ppuSteps_ppu_ctrl, hctrl, ih, Bool.false_and, Bool.or_false, ite_self]

/-- A step that runs an absolute JMP loads PC and counts 3 cycles (44 R204). -/
theorem step_of_jmpAbs {s : State} {a : Word} (hs : RunsInstruction s) (hcode : CodeAtPc s (encode (.jmpAbs a))) :
    step s = .next (settled 3 { started 3 s with pc := a }) := by
  obtain ⟨⟨-, hlen, row, hrow, hmode, hbase, hcross⟩, hexec, -⟩ := jmpLoadsPc (started 3 s) a
  have hcount : cycleCount row { started 3 s with pc := a } = 3 := by
    simp [cycleCount, hmode, hbase, hcross, started]
  rw [stepRunsDecodedInstruction _ row s rfl hrow hs hcode, hlen, hexec]
  exact congrArg (fun c => Host.Outcome.next (settled c _)) hcount

/-- The state after the step of an idle loop. -/
def State.afterIdleStep (s : State) : State :=
  settled 3 { started 3 s with pc := s.pc }

@[simp] theorem afterIdleStep_pc (s : State) : s.afterIdleStep.pc = s.pc := ppuSteps_pc _ _
@[simp] theorem afterIdleStep_p (s : State) : s.afterIdleStep.p = s.p := ppuSteps_p _ _
@[simp] theorem afterIdleStep_fault (s : State) : s.afterIdleStep.fault = s.fault := ppuSteps_fault _ _
@[simp] theorem afterIdleStep_ram (s : State) : s.afterIdleStep.ram = s.ram := ppuSteps_ram _ _
@[simp] theorem afterIdleStep_cart (s : State) : s.afterIdleStep.cart = s.cart := ppuSteps_cart _ _
@[simp] theorem afterIdleStep_ppu_ctrl (s : State) : s.afterIdleStep.ppu.ctrl = s.ppu.ctrl := ppuSteps_ppu_ctrl _ _
@[simp] theorem afterIdleStep_totalCycles (s : State) : s.afterIdleStep.totalCycles = s.totalCycles + 3 :=
  ppuSteps_totalCycles _ _

@[simp] theorem afterIdleStep_peek (b : Word) (s : State) : s.afterIdleStep.peek b = s.peek b := by
  apply peek_congr <;> simp

theorem registers_afterIdleStep (s : State) : registers s.afterIdleStep = registers s := by
  simp [registers, State.afterIdleStep, settled, started]

section
variable {s : State} (h : s.IdleLoop)
include h

theorem State.IdleLoop.runsInstruction : RunsInstruction s :=
  ⟨h.fault, h.nmiPending, h.irq.symm⟩

theorem State.IdleLoop.codeAtPc : CodeAtPc s (encode (.jmpAbs s.pc))
  | 0, _ => (congrArg s.peek (BitVec.add_zero s.pc)).trans h.opcode
  | 1, _ => h.low
  | 2, _ => h.high

theorem State.IdleLoop.step_eq_next : step s = .next s.afterIdleStep :=
  step_of_jmpAbs h.runsInstruction h.codeAtPc

/-- With I set, the loop does not depend on the next level of IRQ_LINE. -/
theorem State.IdleLoop.afterIdleStep (hi : s.p.i = true) : s.afterIdleStep.IdleLoop where
  fault := by rw [afterIdleStep_fault, h.fault]
  opcode := by rw [afterIdleStep_peek, afterIdleStep_pc, h.opcode]
  low := by rw [afterIdleStep_peek, afterIdleStep_pc, h.low]
  high := by rw [afterIdleStep_peek, afterIdleStep_pc, h.high]
  nmiPending := ppuSteps_nmiPending_of_disabled _ h.nmiPending h.nmiDisabled
  nmiDisabled := by rw [afterIdleStep_ppu_ctrl, h.nmiDisabled]
  irq := .inr (by rw [afterIdleStep_p, hi])

end

end Sys2Proof.Machine

open Sys2Proof Sys2Proof.Machine Sys2Proof.Claims

/-- Settles O60: the step is the JMP, which changes time alone, and with the NMI disabled and I set nothing that the
PPU does in that time leaves the loop. -/
theorem idleLoopGoesOn : Obligations.IdleLoopGoesOn :=
  fun s h hi => ⟨s.afterIdleStep, h.step_eq_next, h.afterIdleStep hi, registers_afterIdleStep s, afterIdleStep_ram s,
    afterIdleStep_cart s, afterIdleStep_totalCycles s⟩
end
